-- ==== Sys2Proof/Word.lean ====
section
/-! DEFINITION. Word.lean: the word types of huffman_tree_builder. Fixed widths of the spec are bit vectors of that
width; widths that are parameters (SYMW, FREQW) are natural numbers bounded by the invariant of Safety.lean. -/

namespace Sys2Proof

/-- A 32-bit word: a command word, a host register, a bus datum (R14, R53, R110). -/
abbrev Word := BitVec 32

/-- A digit: an unsigned 4-bit child index (R13). -/
abbrev Digit := BitVec 4

/-- A node index, carried in an 18-bit field (R12). -/
abbrev NodeIdx := BitVec 18

end Sys2Proof
end

