-- ==== Sys2Proof/Syntax.lean ====
section
/-! DEFINITION. Syntax.lean: the 14 commands of 30_encoding.md R113, one constructor a row. An operand is the unsigned
number of its field (R112); which numbers fit the fields is WellFormed.lean's (R117). -/

namespace Sys2Proof

/-- A command (R113). -/
inductive Instr where
  /-- NOP (R144). -/
  | nop
  /-- CLEAR (R145). -/
  | clear
  /-- SET_ARITY n (R180). -/
  | setArity (arity : Nat)
  /-- COUNT s (R160). -/
  | count (sym : Nat)
  /-- BUILD (R190). -/
  | build
  /-- ENC_SYM s (R230). -/
  | encSym (sym : Nat)
  /-- DEC_START (R250). -/
  | decStart
  /-- DEC_DIGIT d (R251). -/
  | decDigit (dig : Nat)
  /-- DEC_END (R252). -/
  | decEnd
  /-- ERR_ACK (R146). -/
  | errAck
  /-- Q_FREQ s (R161). -/
  | qFreq (sym : Nat)
  /-- Q_CODE s (R231). -/
  | qCode (sym : Nat)
  /-- Q_NODE x (R200). -/
  | qNode (node : Nat)
  /-- Q_CHILD x, c (R201): node index, then child index. -/
  | qChild (node : Nat) (ci : Nat)
  deriving DecidableEq, Repr

end Sys2Proof
end

