-- ==== Sys2Proof/WellFormed.lean ====
section
/-! DEFINITION. WellFormed.lean: an operand fits its field (30_encoding.md R117: the assembler refuses ARITY > 255,
SYM > 0xFFFF, DIG > 15, NODE > 0x3FFFF, CI > 15). -/

namespace Sys2Proof

/-- Every operand of the command fits its field (R111, R117). -/
def Instr.wellFormed : Instr → Bool
  | .nop => true
  | .clear => true
  | .setArity arity => decide (arity ≤ 255)
  | .count sym => decide (sym ≤ 0xFFFF)
  | .build => true
  | .encSym sym => decide (sym ≤ 0xFFFF)
  | .decStart => true
  | .decDigit dig => decide (dig ≤ 15)
  | .decEnd => true
  | .errAck => true
  | .qFreq sym => decide (sym ≤ 0xFFFF)
  | .qCode sym => decide (sym ≤ 0xFFFF)
  | .qNode node => decide (node ≤ 0x3FFFF)
  | .qChild node ci => decide (node ≤ 0x3FFFF) && decide (ci ≤ 15)

end Sys2Proof
end

