-- ==== Sys2Proof/Decode.lean ====
section
/-! DEFINITION. Decode.lean: the opcode map and formats of 30_encoding.md (R111 to R115), the total decoder of a command
word, and the encoder written from the same tables. -/

namespace Sys2Proof

/-- The six formats of R111. -/
inductive Format where
  | n | a | s | d | x | xc
  deriving DecidableEq, Repr

/-- The opcodes of R113, one per row. -/
inductive Opcode where
  | nop | clear | setArity | count | build | encSym | decStart | decDigit | decEnd | errAck | qFreq | qCode | qNode | qChild
  deriving DecidableEq, Repr

/-- Why a word is illegal (R115). -/
inductive Illegal where
  /-- OP in 0x0E..0xFF: sub-code 1. -/
  | unassignedOpcode
  /-- A reserved bit of the row's format is 1: sub-code 2. -/
  | reservedBit
  deriving DecidableEq, Repr

/-- What a word decodes to (R114). -/
inductive Decoded where
  | command (i : Instr)
  | illegal (why : Illegal)
  deriving DecidableEq, Repr

/-- The bits of a format that must be 0 (R111). -/
def Format.reserved : Format → Word
  | .n => 0x00FFFFFF
  | .a => 0x00FFFF00
  | .s => 0x00FF0000
  | .d => 0x00FFFFF0
  | .x => 0x00FC0000
  | .xc => 0x00C00000

/-- Column OP of R113. -/
def Opcode.code : Opcode → BitVec 8
  | .nop => 0x00
  | .clear => 0x01
  | .setArity => 0x02
  | .count => 0x03
  | .build => 0x04
  | .encSym => 0x05
  | .decStart => 0x06
  | .decDigit => 0x07
  | .decEnd => 0x08
  | .errAck => 0x09
  | .qFreq => 0x0A
  | .qCode => 0x0B
  | .qNode => 0x0C
  | .qChild => 0x0D

/-- Column format of R113. -/
def Opcode.format : Opcode → Format
  | .nop => .n
  | .clear => .n
  | .setArity => .a
  | .count => .s
  | .build => .n
  | .encSym => .s
  | .decStart => .n
  | .decDigit => .d
  | .decEnd => .n
  | .errAck => .n
  | .qFreq => .s
  | .qCode => .s
  | .qNode => .x
  | .qChild => .xc

/-- The row of R113 with the given OP; none for an unassigned opcode. -/
def Opcode.ofCode (op : BitVec 8) : Option Opcode :=
  match op.toNat with
  | 0x00 => some .nop
  | 0x01 => some .clear
  | 0x02 => some .setArity
  | 0x03 => some .count
  | 0x04 => some .build
  | 0x05 => some .encSym
  | 0x06 => some .decStart
  | 0x07 => some .decDigit
  | 0x08 => some .decEnd
  | 0x09 => some .errAck
  | 0x0A => some .qFreq
  | 0x0B => some .qCode
  | 0x0C => some .qNode
  | 0x0D => some .qChild
  | _ => none

/-- Column match of R113: OP in [31:24], every other fixed bit 0. -/
def Opcode.matchWord (o : Opcode) : Word := o.code.setWidth 32 <<< 24

/-- Column mask of R113: OP and the reserved bits. -/
def Opcode.mask (o : Opcode) : Word := 0xFF000000 ||| o.format.reserved

/-- OP = w[31:24] (R110). -/
def opField (w : Word) : BitVec 8 := w.extractLsb' 24 8

/-- ARITY = zext_8(w[7:0]) (R112). -/
def arityField (w : Word) : Nat := (w.extractLsb' 0 8).toNat

/-- SYM = zext_16(w[15:0]) (R112). -/
def symField (w : Word) : Nat := (w.extractLsb' 0 16).toNat

/-- DIG = zext_4(w[3:0]) (R112). -/
def digField (w : Word) : Nat := (w.extractLsb' 0 4).toNat

/-- NODE = zext_18(w[17:0]) (R112). -/
def nodeField (w : Word) : Nat := (w.extractLsb' 0 18).toNat

/-- CI = zext_4(w[21:18]) (R112). -/
def ciField (w : Word) : Nat := (w.extractLsb' 18 4).toNat

/-- The command of a row, its operands taken from the word's fields (R112). -/
def Opcode.instr (o : Opcode) (w : Word) : Instr :=
  match o with
  | .nop => .nop
  | .clear => .clear
  | .setArity => .setArity (arityField w)
  | .count => .count (symField w)
  | .build => .build
  | .encSym => .encSym (symField w)
  | .decStart => .decStart
  | .decDigit => .decDigit (digField w)
  | .decEnd => .decEnd
  | .errAck => .errAck
  | .qFreq => .qFreq (symField w)
  | .qCode => .qCode (symField w)
  | .qNode => .qNode (nodeField w)
  | .qChild => .qChild (nodeField w) (ciField w)

/-- Decode of a command word, total (R114). -/
def decode (w : Word) : Decoded :=
  match Opcode.ofCode (opField w) with
  | none => .illegal .unassignedOpcode
  | some o => if w &&& o.mask = o.matchWord then .command (o.instr w) else .illegal .reservedBit

/-- The row of a command (R113). -/
def Instr.opcode : Instr → Opcode
  | .nop => .nop
  | .clear => .clear
  | .setArity _ => .setArity
  | .count _ => .count
  | .build => .build
  | .encSym _ => .encSym
  | .decStart => .decStart
  | .decDigit _ => .decDigit
  | .decEnd => .decEnd
  | .errAck => .errAck
  | .qFreq _ => .qFreq
  | .qCode _ => .qCode
  | .qNode _ => .qNode
  | .qChild _ _ => .qChild

/-- The operand fields of a command at their places in the word (R111). -/
def Instr.operandBits : Instr → Word
  | .nop => 0
  | .clear => 0
  | .setArity arity => BitVec.ofNat 32 arity
  | .count sym => BitVec.ofNat 32 sym
  | .build => 0
  | .encSym sym => BitVec.ofNat 32 sym
  | .decStart => 0
  | .decDigit dig => BitVec.ofNat 32 dig
  | .decEnd => 0
  | .errAck => 0
  | .qFreq sym => BitVec.ofNat 32 sym
  | .qCode sym => BitVec.ofNat 32 sym
  | .qNode node => BitVec.ofNat 32 node
  | .qChild node ci => (BitVec.ofNat 32 ci <<< 18) ||| BitVec.ofNat 32 node

/-- The word of a command (R111, R113). -/
def encode (i : Instr) : Word := i.opcode.matchWord ||| i.operandBits

/-- What the assembler emits for a command: its word, or nothing where an operand does not fit its field (R117). -/
def assemble (i : Instr) : Option Word := if i.wellFormed then some (encode i) else none

/-- The instruction this decoder reads from the low `nbits` bits of `w` (a command is exactly one 32-bit word, R110). -/
def decodeTableWord (nbits w : Nat) : Option Instr :=
  match decode (BitVec.ofNat 32 (w % 2 ^ nbits)) with
  | .command i => some i
  | .illegal _ => none

end Sys2Proof
end

