-- ==== Sys2Proof/Config.lean ====
section
/-! DEFINITION. Config.lean: the four implementation parameters (00_scope.md R10), the constants derived from them
(R11), the platform's base address (20_memory.md R80), and the one free value of the model (20_memory.md R84). -/

namespace Sys2Proof

/-- The four parameters of R10 and the platform's BASE (R80). They are configuration (R32): State carries them as plain data
and no step changes them. -/
structure Params where
  /-- SYMW, bits in a symbol. -/
  symw : Nat
  /-- N_MAX, the largest arity the engine builds. -/
  nMax : Nat
  /-- FREQW, bits in a frequency count and in TOTAL. -/
  freqw : Nat
  /-- OUT_DEPTH, entries in the output FIFO. -/
  outDepth : Nat
  /-- BASE, the address of the register space: the platform's parameter, not the block's (R80, D43, I14; assumption 16). -/
  base : Nat
  deriving DecidableEq, Repr

/-- The values this hardware takes (R10, last column), at BASE 0, which is a DESIGN CHOICE (assumption 16): R80 leaves BASE to the
platform, and no rule depends on its value (D43). -/
def Params.thisHardware : Params := ⟨8, 10, 32, 256, 0⟩

/-- SYM_COUNT, the number of symbol values (R11). -/
def Params.symCount (p : Params) : Nat := 2 ^ p.symw

/-- FREQ_MAX (R11). -/
def Params.freqMax (p : Params) : Nat := 2 ^ p.freqw - 1

/-- LEAF_MAX, the largest leaf count, real and dummy (R11). -/
def Params.leafMax (p : Params) : Nat := p.symCount + p.nMax - 2

/-- NODE_MAX, the largest node count (R11). -/
def Params.nodeMax (p : Params) : Nat := 2 * p.leafMax - 1

/-- CODE_MAX, the longest code, in digits (R11). -/
def Params.codeMax (p : Params) : Nat := max 1 (p.symCount - 1)

/-- The address of a byte offset of the register space (R80). -/
def Params.address (p : Params) (off : Nat) : Nat := p.base + off

/-- The byte offset of an address in the register space; none outside it (R80). -/
def Params.offsetOf (p : Params) (addr : Nat) : Option Nat :=
  if p.base ≤ addr ∧ addr < p.base + 0x100 then some (addr - p.base) else none

/-- The legal ranges of R10, and BASE a multiple of 256 (R80). -/
abbrev Params.Legal (p : Params) : Prop :=
  (1 ≤ p.symw ∧ p.symw ≤ 16) ∧ (2 ≤ p.nMax ∧ p.nMax ≤ 16) ∧ (1 ≤ p.freqw ∧ p.freqw ≤ 32) ∧
    (p.codeMax ≤ p.outDepth ∧ p.outDepth ≤ 131071) ∧ p.base % 0x100 = 0

/-- The FREE VALUE of a read that R84 leaves unspecified while BUSY = 1: any 32-bit value, one for each draw. It has no
body, so no proof can see it (assumption 5). -/
opaque Config.unspecifiedRead : Nat → Word

end Sys2Proof
end

