-- ==== Sys2Proof/Machine/State.lean ====
section
/-! DEFINITION. Machine/State.lean: every piece of state of 10_state.md (R30 to R52) as plain data, the reasons a step can
stop, and the reset state (R71). -/

namespace Sys2Proof.Machine

/-- PHASE (R34): IDLE = 0 (counting), BUILT = 1 (tree and code table valid). -/
inductive Phase where
  | idle | built
  deriving DecidableEq, Repr

/-- DEC_STATE (R44): D_IDLE = 0, D_ACTIVE = 1, D_ABORTED = 2. -/
inductive DecState where
  | idle | active | aborted
  deriving DecidableEq, Repr

/-- A written entry of the node memory (R39). A field that is meaningful for one KIND only exists for that KIND only
(the document's tagged variant, R199), so a field that holds no value cannot be read. -/
inductive Node where
  /-- KIND = LEAF: SYM and NFREQ. -/
  | leaf (sym nfreq : Nat)
  /-- KIND = DUMMY: NFREQ is 0. -/
  | dummy
  /-- KIND = INTERNAL: NFREQ and the ordered children, child 0 first. -/
  | internal (nfreq : Nat) (children : List NodeIdx)
  deriving DecidableEq, Repr

/-- An element of the priority queue with its key (NFREQ, node index) (R43, R182). -/
structure PQKey where
  freq : Nat
  node : Nat
  deriving DecidableEq, Repr

/-- CMDL (R45): a command word, or the internal INIT, which has no encoding (R311). -/
inductive Latch where
  | init
  | word (w : Word)
  deriving DecidableEq, Repr

/-- KIND of an output entry (R51): O_DIGIT = 1, O_SYMBOL = 2. -/
inductive OutKind where
  | digit | symbol
  deriving DecidableEq, Repr

/-- An entry of the output FIFO (R51). -/
structure OutEntry where
  kind : OutKind
  value : BitVec 16
  deriving DecidableEq, Repr

/-- Who moves next: the inputs of the machine, in the one total order of R93 (DESIGN CHOICE, assumption 1). -/
inductive Turn where
  /-- The engine takes its transition if one is enabled (R140, R142). -/
  | engine
  /-- The host performs MemRead(off, size), off a byte offset of the register space (R17, R81). -/
  | read (off size : Nat)
  /-- The host performs MemWrite(off, size, v), off as above (R17, R81). -/
  | write (off size : Nat) (v : Word)
  /-- The reset input is asserted (R310). -/
  | reset
  deriving DecidableEq, Repr

/-- An access on the platform's bus, by address. -/
inductive BusAccess where
  | read (addr size : Nat)
  | write (addr size : Nat) (v : Word)
  deriving DecidableEq, Repr

/-- A sparse internal memory: entries by index, indices strictly rising (`Memory.wf`). What an unlisted index reads as is
the reading operation's (FREQ: 0, R35, R71; code table: CODE_VALID = 0, R42, R71). -/
abbrev Memory (α : Type) := List (Nat × α)

/-- The state of the block, each field under its name in 10_state.md, then the model's own fields. -/
structure State where
  /-- The parameters of R10 and BASE (R80): configuration, never changed by a step (R32; assumptions 7 and 16). -/
  params : Params
  /-- ARITY (R33). -/
  arity : BitVec 8
  /-- PHASE (R34). -/
  phase : Phase
  /-- FREQ (R35): only the entries that are not 0 are listed. -/
  freq : Memory Nat
  /-- KCOUNT (R36). -/
  kcount : BitVec 17
  /-- TOTAL (R37), FREQW bits. -/
  total : Nat
  /-- TREE_ARITY (R38). -/
  treeArity : BitVec 8
  /-- NODE (R39): entry i is element i; entries beyond the list hold no value. -/
  nodes : List Node
  /-- NODE_COUNT (R40). -/
  nodeCount : BitVec 18
  /-- LEAF_COUNT (R40). -/
  leafCount : BitVec 17
  /-- PAD (R40). -/
  pad : BitVec 8
  /-- ROOT (R40). -/
  root : NodeIdx
  /-- The code lookup table (R42): symbol s is listed iff CODE_VALID[s] = 1, with CODE_DIG[s]; CODE_LEN[s] is the length. -/
  codes : Memory (List Digit)
  /-- PQ (R43): scratch of BUILD, keys strictly rising. -/
  pq : List PQKey
  /-- DEC_STATE (R44). -/
  decState : DecState
  /-- CURSOR (R44). -/
  cursor : NodeIdx
  /-- BUSY (R45). -/
  busy : Bool
  /-- CMDL (R45). -/
  cmdl : Latch
  /-- OVR (R47). -/
  ovr : Bool
  /-- LAST_CODE (R48). -/
  lastCode : BitVec 8
  /-- LAST_SUB (R48). -/
  lastSub : BitVec 4
  /-- FIRST_CODE (R48). -/
  firstCode : BitVec 8
  /-- FIRST_SUB (R48). -/
  firstSub : BitVec 4
  /-- STICKY (R48). -/
  sticky : Bool
  /-- RES0 (R49). -/
  res0 : Word
  /-- RES1 (R49). -/
  res1 : Word
  /-- OUT (R50), oldest entry first. -/
  out : List OutEntry
  /-- The model's own: the turns to come (assumption 1). -/
  turns : List Turn
  /-- The model's own: the words the host's reads returned, oldest first (assumption 4). -/
  answers : List Word
  /-- The model's own: how many unspecified reads have been drawn (R84; assumption 5). -/
  draws : Nat
  deriving DecidableEq, Repr

/-- Why the machine stops. No command of the block faults (R283). -/
inductive Fault where
  /-- Raised by Q_NODE, Q_CHILD and DEC_DIGIT on a read of a NODE entry that holds no value (R39, I10). Safe: it is
  unreachable from states that meet the invariant (R253). -/
  | nodeHoldsNoValue
  /-- Raised by Q_CHILD and DEC_DIGIT on a read of a CHILD position that holds no value (R39, I10). Safe, as above. -/
  | childHoldsNoValue
  deriving DecidableEq, Repr

/-- What the model gives no meaning. -/
inductive Refusal where
  /-- Raised by exec's arm of an instruction that has no meaning yet. Safe. -/
  | notModelled (mnemonic : String)
  /-- Raised by a host turn whose access R81 does not admit (not 32 bits, not at a multiple of 4, or beyond the window):
  the spec gives it no meaning (I9). Safe. -/
  | accessNotAdmitted
  deriving DecidableEq, Repr

/-- The reset state (R71) at given parameters: BUSY = 1 with INIT pending. -/
def State.resetWith (p : Params) : State where
  params := p
  arity := 0
  phase := .idle
  freq := []
  kcount := 0
  total := 0
  treeArity := 0
  nodes := []
  nodeCount := 0
  leafCount := 0
  pad := 0
  root := 0
  codes := []
  pq := []
  decState := .idle
  cursor := 0
  busy := true
  cmdl := .init
  ovr := false
  lastCode := 0
  lastSub := 0
  firstCode := 0
  firstSub := 0
  sticky := false
  res0 := 0
  res1 := 0
  out := []
  turns := []
  answers := []
  draws := 0

/-- The machine right after reset (R71), at this hardware's parameters (R10). -/
def State.reset : State := State.resetWith Params.thisHardware

end Sys2Proof.Machine
end

