-- ==== Sys2Proof/Machine/Ops.lean ====
section
/-! DEFINITION. Machine/Ops.lean: the named operations over the state: the sparse memories FREQ and code table, the
node memory, the output FIFO, the command latch, and how a command ends: completion, raise, hold (R18, R141, R142). -/

namespace Sys2Proof.Machine

/-! ### Sparse memories -/

/-- The entry listed at an index. -/
def Memory.read {α : Type} (m : Memory α) (k : Nat) : Option α :=
  match m with
  | [] => none
  | (a, v) :: rest => if k = a then some v else Memory.read rest k

/-- Writes an entry, keeping the indices strictly rising. -/
def Memory.write {α : Type} (m : Memory α) (k : Nat) (v : α) : Memory α :=
  match m with
  | [] => [(k, v)]
  | (a, x) :: rest =>
    if k < a then (k, v) :: (a, x) :: rest
    else if k = a then (k, v) :: rest
    else (a, x) :: Memory.write rest k v

/-- Removes the entry at an index: it then reads as unlisted. -/
def Memory.erase {α : Type} (m : Memory α) (k : Nat) : Memory α :=
  match m with
  | [] => []
  | (a, x) :: rest => if k = a then rest else (a, x) :: Memory.erase rest k

/-- The canonical form: indices strictly rising, so that equal memories are equal lists. -/
def Memory.wf {α : Type} (m : Memory α) : Bool :=
  match m with
  | [] => true
  | (a, _) :: rest => rest.all (fun e => decide (a < e.1)) && Memory.wf rest

/-- The canonical form of FREQ: indices strictly rising and no listed entry 0, which is what an unlisted one reads as. -/
def freqWf (m : Memory Nat) : Bool := Memory.wf m && m.all (fun e => e.2 != 0)

/-- FREQ[sym] <- v (R35). Writing 0 removes the entry. -/
def freqWrite (m : Memory Nat) (sym v : Nat) : Memory Nat :=
  if v = 0 then Memory.erase m sym else Memory.write m sym v

/-- FREQ[sym]; an entry not listed is 0 (R35, R71). -/
def State.freqAt (s : State) (sym : Nat) : Nat := (Memory.read s.freq sym).getD 0

/-- The digits of the code of sym, first digit first; none iff CODE_VALID[sym] = 0 (R42). -/
def State.codeAt (s : State) (sym : Nat) : Option (List Digit) := Memory.read s.codes sym

/-- NODE[i]; none where the entry holds no value (R39). -/
def State.nodeAt (s : State) (i : Nat) : Option Node := s.nodes[i]?

/-! ### Fields of a node (R39, R199) -/

/-- KIND: LEAF = 1, DUMMY = 2, INTERNAL = 3. -/
def Node.kindCode : Node → BitVec 2
  | .leaf _ _ => 1
  | .dummy => 2
  | .internal _ _ => 3

/-- NFREQ: a leaf's count, 0 for a dummy, the sum of the children's for an internal node. -/
def Node.nfreq : Node → Nat
  | .leaf _ f => f
  | .dummy => 0
  | .internal f _ => f

/-- CHILD, the children of an internal node; other nodes have none. -/
def Node.children : Node → List NodeIdx
  | .leaf _ _ => []
  | .dummy => []
  | .internal _ cs => cs

/-! ### Error codes (60_exceptions.md R280) -/

/-- The errors a command can complete with: every (code, sub-code) pair of R280 but OK. -/
inductive CmdError where
  /-- InvalidArity(0). -/
  | invalidArity
  /-- UnknownSymbol(1): SYM ≥ SYM_COUNT. -/
  | unknownSymbolRange
  /-- UnknownSymbol(2): SYM never counted. -/
  | unknownSymbolUncounted
  /-- InvalidEncoding(1): digit ≥ TREE_ARITY. -/
  | encodingDigitRange
  /-- InvalidEncoding(2): dummy leaf reached. -/
  | encodingDummy
  /-- InvalidEncoding(3): truncated at DEC_END. -/
  | encodingTruncated
  /-- InvalidEncoding(4): session already aborted. -/
  | encodingAborted
  /-- InvalidEncoding(5): non-zero digit at the single-symbol root. -/
  | encodingLeafRoot
  /-- IllegalCommand(1): unassigned opcode. -/
  | illegalOpcode
  /-- IllegalCommand(2): reserved bit set. -/
  | illegalReserved
  /-- Sequence(1): needs phase IDLE. -/
  | sequenceNeedsIdle
  /-- Sequence(2): needs phase BUILT. -/
  | sequenceNeedsBuilt
  /-- Sequence(3): no decode session. -/
  | sequenceNoSession
  /-- ArityUnsupported(0). -/
  | arityUnsupported
  /-- EmptyInput(0). -/
  | emptyInput
  /-- SymbolRange(0). -/
  | symbolRange
  /-- FreqOverflow(0). -/
  | freqOverflow
  /-- NodeRange(1): index ≥ NODE_COUNT. -/
  | nodeIndex
  /-- NodeRange(2): node not internal. -/
  | nodeNotInternal
  /-- NodeRange(3): child index ≥ TREE_ARITY. -/
  | nodeChildIndex
  deriving DecidableEq, Repr

/-- Column code of R280. -/
def CmdError.code : CmdError → BitVec 8
  | .invalidArity => 0x01
  | .unknownSymbolRange => 0x02
  | .unknownSymbolUncounted => 0x02
  | .encodingDigitRange => 0x03
  | .encodingDummy => 0x03
  | .encodingTruncated => 0x03
  | .encodingAborted => 0x03
  | .encodingLeafRoot => 0x03
  | .illegalOpcode => 0x10
  | .illegalReserved => 0x10
  | .sequenceNeedsIdle => 0x11
  | .sequenceNeedsBuilt => 0x11
  | .sequenceNoSession => 0x11
  | .arityUnsupported => 0x12
  | .emptyInput => 0x13
  | .symbolRange => 0x14
  | .freqOverflow => 0x15
  | .nodeIndex => 0x16
  | .nodeNotInternal => 0x16
  | .nodeChildIndex => 0x16

/-- Column sub-codes of R280. -/
def CmdError.sub : CmdError → BitVec 4
  | .invalidArity => 0
  | .unknownSymbolRange => 1
  | .unknownSymbolUncounted => 2
  | .encodingDigitRange => 1
  | .encodingDummy => 2
  | .encodingTruncated => 3
  | .encodingAborted => 4
  | .encodingLeafRoot => 5
  | .illegalOpcode => 1
  | .illegalReserved => 2
  | .sequenceNeedsIdle => 1
  | .sequenceNeedsBuilt => 2
  | .sequenceNoSession => 3
  | .arityUnsupported => 0
  | .emptyInput => 0
  | .symbolRange => 0
  | .freqOverflow => 0
  | .nodeIndex => 1
  | .nodeNotInternal => 2
  | .nodeChildIndex => 3

/-- The error of an illegal word (R114, R115). -/
def illegalError : Illegal → CmdError
  | .unassignedOpcode => .illegalOpcode
  | .reservedBit => .illegalReserved

/-! ### Named updates of the state -/

/-- `complete(code, sub)` (R141); code 0 is OK. FIRST is recorded only by a failure with STICKY = 0. -/
def State.complete (s : State) (code : BitVec 8) (sub : BitVec 4) : State :=
  { s with
    lastCode := code
    lastSub := sub
    firstCode := if code ≠ 0 ∧ s.sticky = false then code else s.firstCode
    firstSub := if code ≠ 0 ∧ s.sticky = false then sub else s.firstSub
    sticky := s.sticky || code != 0
    busy := false }

/-- `complete_init()` (R311): BUSY <- 0 and nothing else. -/
def State.completeInit (s : State) : State := { s with busy := false }

/-- An accepted CMD write (R86): CMDL <- w, BUSY <- 1. -/
def State.latch (s : State) (w : Word) : State := { s with cmdl := .word w, busy := true }

/-- A dropped CMD write (R86): OVR <- 1. -/
def State.overrun (s : State) : State := { s with ovr := true }

/-- RES0 <- r0, RES1 <- r1: queries write both (R49). -/
def State.setRes (s : State) (r0 r1 : Word) : State := { s with res0 := r0, res1 := r1 }

/-- `push` of each entry in turn at the tail of OUT (R52). -/
def State.push (s : State) (es : List OutEntry) : State := { s with out := s.out ++ es }

/-- Removes the oldest entry of OUT (R88). -/
def State.popOut (s : State) : State := { s with out := s.out.tail }

/-- DEC_STATE and CURSOR (R44). -/
def State.setDecoder (s : State) (d : DecState) (c : NodeIdx) : State := { s with decState := d, cursor := c }

/-! ### How a command's pseudocode ends (R18) -/

/-- The outcome of a command's pseudocode on a state. -/
inductive Body where
  /-- It ran to its end with these writes: the command completes with OK. -/
  | done (s : State)
  /-- `raise`: it stopped with an error, having written only what stands in the state given. -/
  | raise (s : State) (e : CmdError)
  /-- `wait until c` with c false (R142). -/
  | wait
  /-- It read something that holds no value (I10). -/
  | noValue (f : Fault)
  deriving DecidableEq, Repr

/-- The pseudocode reached a `wait until c` with c false (R46). -/
def Body.isWait : Body → Bool
  | .done _ => false
  | .raise _ _ => false
  | .wait => true
  | .noValue _ => false

/-- TAKING AN ERROR, the block's counterpart of exception entry (R18, R141, R283): the command ends at the `raise` with the
writes made before it, and completes with the error's code and sub-code. -/
def State.raise (s : State) (e : CmdError) : State := s.complete e.code e.sub

/-- One engine transition for a command (R140, R143): its writes and its completion together; during a hold there is no
transition and the state stays (R142; assumption 3). -/
def finish (s : State) : Body → Host.Outcome State Fault Refusal
  | .done t => .next (t.complete 0 0)
  | .raise t e => .next (t.raise e)
  | .wait => .next s
  | .noValue f => .fault f

end Sys2Proof.Machine
end

