-- ==== Sys2Proof/Machine/Operands.lean ====
section
/-! DEFINITION. Machine/Operands.lean: the operand checks and lookups that commands share (30_encoding.md R112; the
orders of R281). -/

namespace Sys2Proof.Machine

/-- SYM < SYM_COUNT: the value is one a counted symbol can have (R12). -/
def State.symInRange (s : State) (sym : Nat) : Bool := decide (sym < s.params.symCount)

/-- The table lookup of ENC_SYM and Q_CODE, with their checks in order (R230, R231): Sequence(2), UnknownSymbol(1),
UnknownSymbol(2). -/
def withCode (s : State) (sym : Nat) (use : List Digit → Body) : Body :=
  if s.phase ≠ .built then .raise s .sequenceNeedsBuilt
  else if !s.symInRange sym then .raise s .unknownSymbolRange
  else match s.codeAt sym with
    | none => .raise s .unknownSymbolUncounted
    | some code => use code

/-- The node lookup of Q_NODE and Q_CHILD, with their checks in order (R200, R201): Sequence(2), NodeRange(1). -/
def withNode (s : State) (node : Nat) (use : Node → Body) : Body :=
  if s.phase ≠ .built then .raise s .sequenceNeedsBuilt
  else if s.nodeCount.toNat ≤ node then .raise s .nodeIndex
  else match s.nodeAt node with
    | none => .noValue .nodeHoldsNoValue
    | some e => use e

/-- The free entries of OUT: OUT_DEPTH - len(OUT). -/
def State.outFree (s : State) : Nat := s.params.outDepth - s.out.length

/-- An O_DIGIT entry (R51). -/
def OutEntry.ofDigit (d : Digit) : OutEntry := ⟨.digit, d.setWidth 16⟩

/-- An O_SYMBOL entry (R51): the symbol zero-extended to 16 bits. -/
def OutEntry.ofSymbol (sym : Nat) : OutEntry := ⟨.symbol, BitVec.ofNat 16 sym⟩

end Sys2Proof.Machine
end

