-- ==== Sys2Proof/Machine/CodeLookup.lean ====
section
/-! DEFINITION. Machine/CodeLookup.lean: ENC_SYM, Q_CODE (43_code_lookup.md R230, R231). -/

namespace Sys2Proof.Machine

/-- ENC_SYM s (R230): all or nothing, once the whole code fits. -/
def bodyEncSym (sym : Nat) (s : State) : Body :=
  withCode s sym fun code =>
    if s.outFree < code.length then .wait
    else .done (s.push (code.map OutEntry.ofDigit))

/-- RES1 of Q_CODE (R231): digit j in bits [4j+3:4j], for the first 8 digits. -/
def packDigits (code : List Digit) : Word :=
  (code.take 8).foldr (fun d acc => d.setWidth 32 + acc <<< 4) 0

/-- Q_CODE s (R231). -/
def bodyQCode (sym : Nat) (s : State) : Body :=
  withCode s sym fun code => .done (s.setRes (BitVec.ofNat 32 code.length) (packDigits code))

/-- ENC_SYM as the engine runs it. -/
def execEncSym (sym : Nat) (s : State) : Host.Outcome State Fault Refusal := finish s (bodyEncSym sym s)

/-- Q_CODE as the engine runs it. -/
def execQCode (sym : Nat) (s : State) : Host.Outcome State Fault Refusal := finish s (bodyQCode sym s)

end Sys2Proof.Machine
end

