-- ==== Sys2Proof/Machine/Control.lean ====
section
/-! DEFINITION. Machine/Control.lean: NOP, CLEAR, ERR_ACK (40_control.md R144 to R146). -/

namespace Sys2Proof.Machine

/-- NOP (R144): nothing. -/
def bodyNop (s : State) : Body := .done s

/-- The writes of CLEAR (R145). ARITY and OVR are not written. -/
def State.clear (s : State) : State :=
  { s with
    phase := .idle
    freq := []
    kcount := 0
    total := 0
    treeArity := 0
    nodes := []
    nodeCount := 0
    leafCount := 0
    pad := 0
    root := 0
    codes := []
    decState := .idle
    cursor := 0
    out := []
    res0 := 0
    res1 := 0
    firstCode := 0
    firstSub := 0
    sticky := false }

/-- CLEAR (R145). -/
def bodyClear (s : State) : Body := .done s.clear

/-- The writes of ERR_ACK (R146). -/
def State.ackErrors (s : State) : State :=
  { s with firstCode := 0, firstSub := 0, sticky := false, ovr := false }

/-- ERR_ACK (R146). -/
def bodyErrAck (s : State) : Body := .done s.ackErrors

/-- NOP as the engine runs it. -/
def execNop (s : State) : Host.Outcome State Fault Refusal := finish s (bodyNop s)

/-- CLEAR as the engine runs it. -/
def execClear (s : State) : Host.Outcome State Fault Refusal := finish s (bodyClear s)

/-- ERR_ACK as the engine runs it. -/
def execErrAck (s : State) : Host.Outcome State Fault Refusal := finish s (bodyErrAck s)

end Sys2Proof.Machine
end

