-- ==== Sys2Proof/Machine/Decoder.lean ====
section
/-! DEFINITION. Machine/Decoder.lean: DEC_START, DEC_DIGIT, DEC_END (44_traversal_decoder.md R250 to R252). -/

namespace Sys2Proof.Machine

/-- DEC_START (R250). -/
def bodyDecStart (s : State) : Body :=
  if s.phase ≠ .built then .raise s .sequenceNeedsBuilt
  else .done (s.setDecoder .active s.root)

/-- `abort(sub)` (R251): DEC_STATE <- D_ABORTED, CURSOR <- ROOT, then the raise. -/
def abortSession (s : State) (e : CmdError) : Body := .raise (s.setDecoder .aborted s.root) e

/-- Emits a decoded symbol once OUT has a free entry and returns the cursor to the root (R251). -/
def emitSymbol (s : State) (sym : Nat) : Body :=
  if s.outFree < 1 then .wait
  else .done ((s.push [OutEntry.ofSymbol sym]).setDecoder s.decState s.root)

/-- The digit at a LEAF root: digit 0 emits the symbol, and the cursor stays at the root (R251, C1). -/
def digitAtLeaf (s : State) (sym dig : Nat) : Body :=
  if dig ≠ 0 then abortSession s .encodingLeafRoot
  else if s.outFree < 1 then .wait
  else .done (s.push [OutEntry.ofSymbol sym])

/-- The digit that leads to child e: descend, emit, or fail on a dummy (R251). -/
def digitToChild (s : State) (e : NodeIdx) : Body :=
  match s.nodeAt e.toNat with
  | none => .noValue .nodeHoldsNoValue
  | some (.internal _ _) => .done (s.setDecoder s.decState e)
  | some (.leaf sym _) => emitSymbol s sym
  | some .dummy => abortSession s .encodingDummy

/-- DEC_DIGIT d (R251). A DUMMY has no CHILD to read, so a cursor there, which no run reaches, reads no value. -/
def bodyDecDigit (dig : Nat) (s : State) : Body :=
  if s.phase ≠ .built then .raise s .sequenceNeedsBuilt
  else match s.decState with
    | .idle => .raise s .sequenceNoSession
    | .aborted => .raise s .encodingAborted
    | .active =>
      if s.treeArity.toNat ≤ dig then abortSession s .encodingDigitRange
      else match s.nodeAt s.cursor.toNat with
        | none => .noValue .nodeHoldsNoValue
        | some .dummy => .noValue .childHoldsNoValue
        | some (.leaf sym _) => digitAtLeaf s sym dig
        | some (.internal _ children) =>
          match children[dig]? with
          | none => .noValue .childHoldsNoValue
          | some e => digitToChild s e

/-- DEC_END (R252). -/
def bodyDecEnd (s : State) : Body :=
  if s.phase ≠ .built then .raise s .sequenceNeedsBuilt
  else match s.decState with
    | .idle => .raise s .sequenceNoSession
    | .aborted => .raise (s.setDecoder .idle s.root) .encodingAborted
    | .active =>
      if s.cursor ≠ s.root then .raise (s.setDecoder .idle s.root) .encodingTruncated
      else .done (s.setDecoder .idle s.cursor)

/-- DEC_START as the engine runs it. -/
def execDecStart (s : State) : Host.Outcome State Fault Refusal := finish s (bodyDecStart s)

/-- DEC_DIGIT as the engine runs it. -/
def execDecDigit (dig : Nat) (s : State) : Host.Outcome State Fault Refusal := finish s (bodyDecDigit dig s)

/-- DEC_END as the engine runs it. -/
def execDecEnd (s : State) : Host.Outcome State Fault Refusal := finish s (bodyDecEnd s)

end Sys2Proof.Machine
end

