-- ==== Sys2Proof/Machine/Frequency.lean ====
section
/-! DEFINITION. Machine/Frequency.lean: COUNT, Q_FREQ (41_frequency_table.md R160, R161). -/

namespace Sys2Proof.Machine

/-- The writes of a successful COUNT (R160). -/
def State.countSym (s : State) (sym : Nat) : State :=
  { s with
    kcount := if s.freqAt sym = 0 then s.kcount + 1 else s.kcount
    freq := freqWrite s.freq sym (s.freqAt sym + 1)
    total := s.total + 1 }

/-- COUNT s (R160). -/
def bodyCount (sym : Nat) (s : State) : Body :=
  if s.phase ≠ .idle then .raise s .sequenceNeedsIdle
  else if !s.symInRange sym then .raise s .symbolRange
  else if s.total = s.params.freqMax then .raise s .freqOverflow
  else .done (s.countSym sym)

/-- Q_FREQ s (R161). -/
def bodyQFreq (sym : Nat) (s : State) : Body :=
  if !s.symInRange sym then .raise s .symbolRange
  else .done (s.setRes (BitVec.ofNat 32 (s.freqAt sym)) 0)

/-- COUNT as the engine runs it. -/
def execCount (sym : Nat) (s : State) : Host.Outcome State Fault Refusal := finish s (bodyCount sym s)

/-- Q_FREQ as the engine runs it. -/
def execQFreq (sym : Nat) (s : State) : Host.Outcome State Fault Refusal := finish s (bodyQFreq sym s)

end Sys2Proof.Machine
end

