-- ==== Sys2Proof/Machine/TreeBuilder.lean ====
section
/-! DEFINITION. Machine/TreeBuilder.lean: SET_ARITY, BUILD, Q_NODE, Q_CHILD (42_tree_builder.md R180 to R201). -/

namespace Sys2Proof.Machine

/-! ### The priority queue (R43, R182) -/

/-- Keys are compared lexicographically, unsigned (R15, R182). -/
def PQKey.lt (a b : PQKey) : Bool := decide (a.freq < b.freq) || (decide (a.freq = b.freq) && decide (a.node < b.node))

/-- PQ ∪ {k}. The set is held as the list of its keys in rising order, so pop takes the head. -/
def pqInsert (k : PQKey) : List PQKey → List PQKey
  | [] => [k]
  | x :: rest => if k.lt x then k :: x :: rest else x :: pqInsert k rest

/-- The set of the given keys. -/
def pqOf (keys : List PQKey) : List PQKey := keys.foldr pqInsert []

/-- The key of every node of a list, in index order (R182). -/
def nodeKeys (nodes : List Node) : List PQKey := nodes.zipIdx.map fun e => ⟨e.1.nfreq, e.2⟩

/-! ### The steps of BUILD -/

/-- `enumerate_leaves()` (R184): the present symbols in ascending order. -/
def enumerateLeaves (s : State) : List Node :=
  (List.range s.params.symCount).filterMap fun sym =>
    if s.freqAt sym ≠ 0 then some (.leaf sym (s.freqAt sym)) else none

/-- The number p of dummy leaves that `pad()` appends (R185), for k ≥ 2 and n ≥ 2. -/
def padCount (k n : Nat) : Nat :=
  let r := (k - 1) % (n - 1)
  if r = 0 then 0 else (n - 1) - r

/-- The node memory and the priority queue while BUILD merges. -/
structure Arena where
  nodes : List Node
  pq : List PQKey
  deriving DecidableEq, Repr

/-- The parent of the popped keys: child i is the i-th node popped, NFREQ their sum (R186). -/
def parentOfKeys (popped : List PQKey) : Node :=
  .internal (popped.map (·.freq)).sum (popped.map fun k => BitVec.ofNat 18 k.node)

/-- `merge_round()` (R186): pop the n smallest keys, append their parent as node nxt, insert it into PQ. -/
def mergeRound (n : Nat) (a : Arena) : Arena :=
  let parent := parentOfKeys (a.pq.take n)
  { nodes := a.nodes ++ [parent], pq := pqInsert ⟨parent.nfreq, a.nodes.length⟩ (a.pq.drop n) }

/-- `while |PQ| > 1: merge_round()` (R187), with as many rounds allowed as `fuel`; every round of n ≥ 2 shortens PQ, so
the m elements of the start are enough. -/
def mergeLoop (n : Nat) : Nat → Arena → Arena
  | 0, a => a
  | fuel + 1, a => if 1 < a.pq.length then mergeLoop n fuel (mergeRound n a) else a

/-- `merge()` (R187): PQ <- {0, ..., m-1}, then the rounds. -/
def merge (n : Nat) (nodes : List Node) : Arena := mergeLoop n nodes.length ⟨nodes, pqOf (nodeKeys nodes)⟩

/-- What the steps before `commit()` produce. -/
structure Built where
  nodes : List Node
  pq : List PQKey
  leafCount : Nat
  pad : Nat
  deriving DecidableEq, Repr

/-- The tree of the given leaves at arity n: the single-symbol case (R189), or pad and merge (R185, R187). -/
def buildTree (n : Nat) (leaves : List Node) (pq : List PQKey) : Built :=
  let k := leaves.length
  if k = 1 then { nodes := leaves, pq := pq, leafCount := 1, pad := 0 }
  else
    let p := padCount k n
    let a := merge n (leaves ++ List.replicate p .dummy)
    { nodes := a.nodes, pq := a.pq, leafCount := k + p, pad := p }

/-- ROOT' (R188, R189): the last node made. -/
def Built.root (b : Built) : Nat := b.nodes.length - 1

/-! ### Code generation (R193 to R195) -/

/-- The node q and position i with NODE[q].CHILD[i] = e (R193). -/
def parentOf (nodes : List Node) (e : Nat) : Option (Nat × Nat) :=
  nodes.zipIdx.findSome? fun q => (q.1.children.idxOf? (BitVec.ofNat 18 e)).map fun i => (q.2, i)

/-- code(e) (R193): `code(ROOT) = []`, and `code(q) ++ [i]` for child i of q. An index rises on the way to the root, so the
number of nodes is fuel enough. -/
def codeOf (nodes : List Node) (root : Nat) : Nat → Nat → List Digit
  | 0, _ => []
  | fuel + 1, e =>
    if e = root then []
    else match parentOf nodes e with
      | none => []
      | some (q, i) => codeOf nodes root fuel q ++ [BitVec.ofNat 4 i]

/-- The code recorded for a real leaf: [0] where the accumulated code is empty (R194). -/
def leafCode (nodes : List Node) (root e : Nat) : List Digit :=
  match codeOf nodes root nodes.length e with
  | [] => [0]
  | d :: ds => d :: ds

/-- `generate_codes()` (R195), node by node, into the table given. -/
def generateCodes (nodes : List Node) (root : Nat) (table : Memory (List Digit)) : Memory (List Digit) :=
  nodes.zipIdx.foldl (init := table) fun t e =>
    match e.1 with
    | .leaf sym _ => Memory.write t sym (leafCode nodes root e.2)
    | .dummy => t
    | .internal _ _ => t

/-- `commit()` with the writes of `generate_codes()` (R191, R195), and CURSOR <- ROOT', since in phase BUILT with no active
session CURSOR = ROOT (R44; assumption 23). -/
def State.commit (s : State) (b : Built) : State :=
  { s with
    nodes := b.nodes
    pq := b.pq
    codes := generateCodes b.nodes b.root s.codes
    leafCount := BitVec.ofNat 17 b.leafCount
    pad := BitVec.ofNat 8 b.pad
    root := BitVec.ofNat 18 b.root
    nodeCount := BitVec.ofNat 18 b.nodes.length
    treeArity := s.arity
    cursor := BitVec.ofNat 18 b.root
    phase := .built }

/-- The tree BUILD makes of the state (R190). -/
def State.buildResult (s : State) : Built := buildTree s.arity.toNat (enumerateLeaves s) s.pq

/-! ### The commands -/

/-- SET_ARITY n (R180): ARITY <- zext_8(w[7:0]), unchecked. -/
def State.setArity (s : State) (arity : Nat) : State := { s with arity := BitVec.ofNat 8 arity }

/-- SET_ARITY n (R180). -/
def bodySetArity (arity : Nat) (s : State) : Body := .done (s.setArity arity)

/-- BUILD (R190). -/
def bodyBuild (s : State) : Body :=
  if s.phase ≠ .idle then .raise s .sequenceNeedsIdle
  else if s.arity.toNat < 2 then .raise s .invalidArity
  else if s.params.nMax < s.arity.toNat then .raise s .arityUnsupported
  else if s.kcount = 0 then .raise s .emptyInput
  else .done (s.commit s.buildResult)

/-- RES1 of Q_NODE (R200): KIND in [31:30], a leaf's SYM in [15:0]. -/
def nodeWord (e : Node) : Word :=
  e.kindCode.setWidth 32 <<< 30 |||
    match e with
    | .leaf sym _ => (BitVec.ofNat 16 sym).setWidth 32
    | .dummy => 0
    | .internal _ _ => 0

/-- Q_NODE x (R200). -/
def bodyQNode (node : Nat) (s : State) : Body :=
  withNode s node fun e => .done (s.setRes (BitVec.ofNat 32 e.nfreq) (nodeWord e))

/-- Q_CHILD x, c (R201). -/
def bodyQChild (node ci : Nat) (s : State) : Body :=
  withNode s node fun e =>
    match e with
    | .leaf _ _ => .raise s .nodeNotInternal
    | .dummy => .raise s .nodeNotInternal
    | .internal _ children =>
      if s.treeArity.toNat ≤ ci then .raise s .nodeChildIndex
      else match children[ci]? with
        | none => .noValue .childHoldsNoValue
        | some c => .done (s.setRes (c.setWidth 32) 0)

/-- SET_ARITY as the engine runs it. -/
def execSetArity (arity : Nat) (s : State) : Host.Outcome State Fault Refusal := finish s (bodySetArity arity s)

/-- BUILD as the engine runs it. -/
def execBuild (s : State) : Host.Outcome State Fault Refusal := finish s (bodyBuild s)

/-- Q_NODE as the engine runs it. -/
def execQNode (node : Nat) (s : State) : Host.Outcome State Fault Refusal := finish s (bodyQNode node s)

/-- Q_CHILD as the engine runs it. -/
def execQChild (node ci : Nat) (s : State) : Host.Outcome State Fault Refusal := finish s (bodyQChild node ci s)

end Sys2Proof.Machine
end

