-- ==== Sys2Proof/Machine/Dispatch.lean ====
section
/-! DEFINITION. Machine/Dispatch.lean: one arm per command (40_control.md R140). -/

namespace Sys2Proof.Machine

def exec (i : Instr) (s : State) : Host.Outcome State Fault Refusal :=
  match i with
  | .nop => Sys2Proof.Machine.execNop s
  | .clear => Sys2Proof.Machine.execClear s
  | .setArity arity => Sys2Proof.Machine.execSetArity arity s
  | .count sym => Sys2Proof.Machine.execCount sym s
  | .build => Sys2Proof.Machine.execBuild s
  | .encSym sym => Sys2Proof.Machine.execEncSym sym s
  | .decStart => Sys2Proof.Machine.execDecStart s
  | .decDigit dig => Sys2Proof.Machine.execDecDigit dig s
  | .decEnd => Sys2Proof.Machine.execDecEnd s
  | .errAck => Sys2Proof.Machine.execErrAck s
  | .qFreq sym => Sys2Proof.Machine.execQFreq sym s
  | .qCode sym => Sys2Proof.Machine.execQCode sym s
  | .qNode node => Sys2Proof.Machine.execQNode node s
  | .qChild node ci => Sys2Proof.Machine.execQChild node ci s

end Sys2Proof.Machine
end

