-- ==== Sys2Proof/Machine/Flags.lean ====
section
/-! DEFINITION. Machine/Flags.lean: the flags of 10_state.md (R46, R58, R70) and the STATUS word, exact when BUSY = 0 and
with its unspecified fields drawn when BUSY = 1 (20_memory.md R84). -/

namespace Sys2Proof.Machine

/-- The pseudocode of each command on a state, without its completion. -/
def commandBody (i : Instr) (s : State) : Body :=
  match i with
  | .nop => bodyNop s
  | .clear => bodyClear s
  | .setArity arity => bodySetArity arity s
  | .count sym => bodyCount sym s
  | .build => bodyBuild s
  | .encSym sym => bodyEncSym sym s
  | .decStart => bodyDecStart s
  | .decDigit dig => bodyDecDigit dig s
  | .decEnd => bodyDecEnd s
  | .errAck => bodyErrAck s
  | .qFreq sym => bodyQFreq sym s
  | .qCode sym => bodyQCode sym s
  | .qNode node => bodyQNode node s
  | .qChild node ci => bodyQChild node ci s

/-- HOLD (R46): BUSY = 1 and the latched command's pseudocode, evaluated on the current state, waits. -/
def State.hold (s : State) : Bool :=
  s.busy &&
    match s.cmdl with
    | .init => false
    | .word w =>
      match decode w with
      | .illegal _ => false
      | .command i => (commandBody i s).isWait

/-- STATUS.ERR (R58): 1 iff LAST_CODE ≠ 0. -/
def State.errFlag (s : State) : Bool := s.lastCode != 0

/-- STATUS.OUT_EMPTY (R58). -/
def State.outEmpty (s : State) : Bool := s.out.isEmpty

/-- STATUS.OUT_FULL (R58): len(OUT) = OUT_DEPTH. -/
def State.outFull (s : State) : Bool := decide (s.out.length = s.params.outDepth)

/-- The value of PHASE (R34). -/
def Phase.code : Phase → BitVec 1
  | .idle => 0
  | .built => 1

/-- The value of DEC_STATE (R44). -/
def DecState.code : DecState → BitVec 2
  | .idle => 0
  | .active => 1
  | .aborted => 2

/-- One bit as a bit vector. -/
def bit (b : Bool) : BitVec 1 := BitVec.ofBool b

/-- The layout of STATUS (R58), bits 9 down to 0; bits [31:10] are 0. -/
def statusLayout (outFull outEmpty hold ovr sticky err : BitVec 1) (dec : BitVec 2) (phase busy : BitVec 1) : Word :=
  (outFull ++ outEmpty ++ hold ++ ovr ++ sticky ++ err ++ dec ++ phase ++ busy).setWidth 32

/-- STATUS when every field is the current state's (R58). -/
def State.statusWord (s : State) : Word :=
  statusLayout (bit s.outFull) (bit s.outEmpty) (bit s.hold) (bit s.ovr) (bit s.sticky) (bit s.errFlag) s.decState.code
    s.phase.code (bit s.busy)

/-- STATUS read while BUSY = 1 (R84): BUSY, OVR, HOLD, OUT_EMPTY, OUT_FULL exact; STICKY, ERR, DEC_STATE, PHASE taken
from the draw's own bits (assumption 6). -/
def State.statusWhileBusy (s : State) (draw : Word) : Word :=
  statusLayout (bit s.outFull) (bit s.outEmpty) (bit s.hold) (bit s.ovr) (draw.extractLsb' 5 1) (draw.extractLsb' 4 1)
    (draw.extractLsb' 2 2) (draw.extractLsb' 1 1) (bit s.busy)

end Sys2Proof.Machine
end

