-- ==== Sys2Proof/Machine/HostPort.lean ====
section
/-! DEFINITION. Machine/HostPort.lean: the register map (10_state.md R53 to R69) and the host's accesses (20_memory.md R81
to R90), and the reset input (70 R310). -/

namespace Sys2Proof.Machine

/-- The defined registers of the map (R53). -/
inductive Reg where
  | id | param0 | param1 | cmd | status | err | res0 | res1 | outData | outCount | config | kcount | total
  | treeInfo0 | treeInfo1 | treeInfo2
  deriving DecidableEq, Repr

/-- The register at a byte offset; none at a reserved offset (R53, R69). -/
def Reg.ofOffset (off : Nat) : Option Reg :=
  match off with
  | 0x00 => some .id
  | 0x04 => some .param0
  | 0x08 => some .param1
  | 0x0C => some .cmd
  | 0x10 => some .status
  | 0x14 => some .err
  | 0x18 => some .res0
  | 0x1C => some .res1
  | 0x20 => some .outData
  | 0x24 => some .outCount
  | 0x28 => some .config
  | 0x2C => some .kcount
  | 0x30 => some .total
  | 0x34 => some .treeInfo0
  | 0x38 => some .treeInfo1
  | 0x3C => some .treeInfo2
  | _ => none

/-- R81: a 32-bit access at a multiple of 4 within the 256-byte window. -/
def admitted (off size : Nat) : Bool := decide (size = 4) && decide (off % 4 = 0) && decide (off < 0x100)

/-- The constant of ID (R54). -/
def idWord : Word := 0x48554631

/-- PARAM0 (R55): [4:0] SYMW, [12:8] N_MAX, [21:16] FREQW. -/
def param0Word (p : Params) : Word :=
  (BitVec.ofNat 6 p.freqw).setWidth 32 <<< 16 ||| (BitVec.ofNat 5 p.nMax).setWidth 32 <<< 8 |||
    (BitVec.ofNat 5 p.symw).setWidth 32

/-- PARAM1 (R56): [17:0] OUT_DEPTH. -/
def param1Word (p : Params) : Word := (BitVec.ofNat 18 p.outDepth).setWidth 32

/-- ERR (R59): LAST_CODE, LAST_SUB, FIRST_CODE, FIRST_SUB. -/
def State.errWord (s : State) : Word :=
  s.firstSub.setWidth 32 <<< 24 ||| s.firstCode.setWidth 32 <<< 16 ||| s.lastSub.setWidth 32 <<< 8 ||| s.lastCode.setWidth 32

/-- The value of KIND of an output entry (R51). -/
def OutKind.code : OutKind → BitVec 2
  | .digit => 1
  | .symbol => 2

/-- An entry in the format of OUT_DATA (R61): VALID in bit 31, KIND in [29:28], VALUE in [15:0]. -/
def OutEntry.word (e : OutEntry) : Word :=
  0x80000000 ||| e.kind.code.setWidth 32 <<< 28 ||| e.value.setWidth 32

/-- OUT_DATA as it stands (R61): the oldest entry, or 0. -/
def State.outDataWord (s : State) : Word :=
  match s.out with
  | [] => 0
  | e :: _ => e.word

/-- CONFIG (R63): [7:0] ARITY, [15:8] TREE_ARITY. -/
def State.configWord (s : State) : Word := s.treeArity.setWidth 32 <<< 8 ||| s.arity.setWidth 32

/-- TOTAL (R65): [FREQW-1:0] TOTAL, upper bits 0. -/
def State.totalWord (s : State) : Word := (BitVec.ofNat s.params.freqw s.total).setWidth 32

/-- TREEINFO2 (R68): [16:0] LEAF_COUNT, [31:24] PAD. -/
def State.treeInfo2Word (s : State) : Word := s.pad.setWidth 32 <<< 24 ||| s.leafCount.setWidth 32

/-- The value a register has in a state (R54 to R68); CMD reads 0 (R57). -/
def Reg.value (r : Reg) (s : State) : Word :=
  match r with
  | .id => idWord
  | .param0 => param0Word s.params
  | .param1 => param1Word s.params
  | .cmd => 0
  | .status => s.statusWord
  | .err => s.errWord
  | .res0 => s.res0
  | .res1 => s.res1
  | .outData => s.outDataWord
  | .outCount => (BitVec.ofNat 18 s.out.length).setWidth 32
  | .config => s.configWord
  | .kcount => s.kcount.setWidth 32
  | .total => s.totalWord
  | .treeInfo0 => s.nodeCount.setWidth 32
  | .treeInfo1 => s.root.setWidth 32
  | .treeInfo2 => s.treeInfo2Word

/-- The registers whose reads are exact while BUSY = 1, STATUS apart (R84). -/
def Reg.exactWhileBusy : Reg → Bool
  | .id => true
  | .param0 => true
  | .param1 => true
  | .cmd => true
  | .status => false
  | .err => false
  | .res0 => false
  | .res1 => false
  | .outData => true
  | .outCount => true
  | .config => false
  | .kcount => false
  | .total => false
  | .treeInfo0 => false
  | .treeInfo1 => false
  | .treeInfo2 => false

/-- The draw of this read and the state with the next draw ready (R84). -/
def State.drawn (s : State) : State := { s with draws := s.draws + 1 }

/-- What a read of a defined register returns: its value, or where R84 leaves it unspecified a free value. -/
def Reg.readWord (r : Reg) (s : State) : Word :=
  if s.busy && !r.exactWhileBusy then
    if r = .status then s.statusWhileBusy (Config.unspecifiedRead s.draws) else Config.unspecifiedRead s.draws
  else r.value s

/-- What a read of a defined register does to the state: OUT_DATA pops (R88); an unspecified read uses up its draw. -/
def Reg.readEffect (r : Reg) (s : State) : State :=
  if r = .outData then s.popOut
  else if s.busy && !r.exactWhileBusy then s.drawn
  else s

/-- The word an admitted host read returns; reserved offsets read 0 (R69, R83). -/
def hostReadWord (off : Nat) (s : State) : Word :=
  match Reg.ofOffset off with
  | none => 0
  | some r => r.readWord s

/-- The state after an admitted host read (R83, R88). -/
def hostReadEffect (off : Nat) (s : State) : State :=
  match Reg.ofOffset off with
  | none => s
  | some r => r.readEffect s

/-- An admitted host write (R85, R86): only CMD takes one, and only while BUSY = 0. -/
def hostWrite (off : Nat) (v : Word) (s : State) : State :=
  match Reg.ofOffset off with
  | some .cmd => if s.busy then s.overrun else s.latch v
  | some _ => s
  | none => s

/-- The word returned to the host is recorded (assumption 4). -/
def State.answer (s : State) (w : Word) : State := { s with answers := s.answers ++ [w] }

/-- A host read turn: refused unless admitted (R81). -/
def readTurn (off size : Nat) (s : State) : Host.Outcome State Fault Refusal :=
  if admitted off size then .next ((hostReadEffect off s).answer (hostReadWord off s))
  else .refused .accessNotAdmitted

/-- A host write turn: refused unless admitted (R81). -/
def writeTurn (off size : Nat) (v : Word) (s : State) : Host.Outcome State Fault Refusal :=
  if admitted off size then .next (hostWrite off v s)
  else .refused .accessNotAdmitted

/-- The access the platform delivers to the block: an address in the register space at BASE becomes its byte offset, and an
address outside it is none of the block's (R80, R91, R93). -/
def BusAccess.turn (p : Params) : BusAccess → Option Turn
  | .read addr size => (p.offsetOf addr).map fun off => .read off size
  | .write addr size v => (p.offsetOf addr).map fun off => .write off size v

/-- A bus access joins the turns to come, in the order it arrives (R93). -/
def State.deliver (s : State) (a : BusAccess) : State := { s with turns := s.turns ++ (a.turn s.params).toList }

/-- The reset input (R310): the entire state of the block becomes the reset state. What is outside the block stays: the
turns to come, the host's record of answers, the draws used up (assumption 13). -/
def State.assertReset (s : State) : State :=
  { State.resetWith s.params with turns := s.turns, answers := s.answers, draws := s.draws }

end Sys2Proof.Machine
end

