-- ==== Sys2Proof/Machine/Engine.lean ====
section
/-! DEFINITION. Machine/Engine.lean: the engine's transition (40_control.md R140) and the turn that the step takes. -/

namespace Sys2Proof.Machine

/-- The engine runs a latched word: decode, then the command, or IllegalCommand (R114, R115, R140). -/
def runWord (w : Word) (s : State) : Host.Outcome State Fault Refusal :=
  match decode w with
  | .illegal why => .next (s.raise (illegalError why))
  | .command i => exec i s

/-- `engine_step` (R140). With BUSY = 0 the engine has no step and the state stays (assumption 3). -/
def engineStep (s : State) : Host.Outcome State Fault Refusal :=
  if s.busy then
    match s.cmdl with
    | .init => .next s.completeInit
    | .word w => runWord w s
  else .next s

/-- One turn of the total order of R93. -/
def takeTurn (t : Turn) (s : State) : Host.Outcome State Fault Refusal :=
  match t with
  | .engine => engineStep s
  | .read off size => readTurn off size s
  | .write off size v => writeTurn off size v s
  | .reset => .next s.assertReset

/-- The turn that comes next: the head of the turns to come, or the engine's where none is listed (assumption 2). -/
def State.nextTurn (s : State) : Turn :=
  match s.turns with
  | [] => .engine
  | t :: _ => t

/-- The state with that turn used up. -/
def State.dropTurn (s : State) : State := { s with turns := s.turns.tail }

/-- A command word in the latch as an accepted CMD write leaves it (R86), with the engine to move. -/
def State.withCommand (s : State) (w : Word) : State := { s.latch w with turns := .engine :: s.turns }

end Sys2Proof.Machine
end

