-- ==== Sys2Proof/Machine/Step.lean ====
section
/-! DEFINITION. Machine/Step.lean: one step of the machine: one turn of the host, the engine or the reset input
(20_memory.md R89, R93; 40_control.md R140, R143). -/

namespace Sys2Proof.Machine

/-- One step: the next turn, taken on the state with that turn used up. -/
def step (s : State) : Host.Outcome State Fault Refusal := takeTurn s.nextTurn s.dropTurn

/-- The state in which the command word `w` is the next one the engine runs (assumption 12). -/
def State.withFetchWord (s : State) (nbits w : Nat) : State := s.withCommand (BitVec.ofNat 32 (w % 2 ^ nbits))

end Sys2Proof.Machine
end

