-- ==== Sys2Proof/Machine/SortReference.lean ====
section
/-! DEFINITION. Machine/SortReference.lean: the document's own tree algorithm, as 42_tree_builder.md R183 quotes it: sort the
current node list by frequency with a stable sort, take the first n, append the parent at the end. It is the reference
the priority queue is compared with; the machine does not run it. -/

namespace Sys2Proof.Machine

/-- One round on the current node list (R183): stable sort, take n, append the parent. -/
def sortRound (n : Nat) (a : Arena) : Arena :=
  let sorted := a.pq.mergeSort fun x y => decide (x.freq ≤ y.freq)
  let parent := parentOfKeys (sorted.take n)
  { nodes := a.nodes ++ [parent], pq := sorted.drop n ++ [⟨parent.nfreq, a.nodes.length⟩] }

/-- Rounds while more than one node is left, as many as `fuel`. -/
def sortLoop (n : Nat) : Nat → Arena → Arena
  | 0, a => a
  | fuel + 1, a => if 1 < a.pq.length then sortLoop n fuel (sortRound n a) else a

/-- The document's merge of a leaf list: the list starts in index order. -/
def sortMerge (n : Nat) (nodes : List Node) : Arena := sortLoop n nodes.length ⟨nodes, nodeKeys nodes⟩

end Sys2Proof.Machine
end

