-- ==== Sys2Proof/Safety.lean ====
section
/-! DEFINITION. Safety.lean: the invariant of the machine (10_state.md R36, R37, R40 to R44, R48, R50) and the terms the
statements use: the tables of 30_encoding.md and 60_exceptions.md written out, runs of commands, paths in the tree. -/

namespace Sys2Proof.Machine

/-! ### The invariant -/

/-- Every error of R280. -/
def allErrors : List CmdError :=
  [.invalidArity, .unknownSymbolRange, .unknownSymbolUncounted, .encodingDigitRange, .encodingDummy, .encodingTruncated,
    .encodingAborted, .encodingLeafRoot, .illegalOpcode, .illegalReserved, .sequenceNeedsIdle, .sequenceNeedsBuilt,
    .sequenceNoSession, .arityUnsupported, .emptyInput, .symbolRange, .freqOverflow, .nodeIndex, .nodeNotInternal,
    .nodeChildIndex]

/-- The pair is one of R280's other than OK. -/
abbrev IsErrorPair (code : BitVec 8) (sub : BitVec 4) : Prop := ∃ e ∈ allErrors, e.code = code ∧ e.sub = sub

/-- FREQ is canonical and within its memory, KCOUNT counts its present symbols (R36), TOTAL is its sum (R37) and fits FREQW
bits. -/
abbrev State.FreqOk (s : State) : Prop :=
  freqWf s.freq = true ∧ (∀ e ∈ s.freq, e.1 < s.params.symCount) ∧
    s.kcount.toNat = ((List.range s.params.symCount).filter fun x => s.freqAt x ≠ 0).length ∧
    s.total = ((List.range s.params.symCount).map s.freqAt).sum ∧ s.total ≤ s.params.freqMax

/-- An output entry as R51 allows it. -/
abbrev State.EntryOk (s : State) (e : OutEntry) : Prop :=
  (e.kind = .digit → e.value.toNat < 16) ∧ (e.kind = .symbol → e.value.toNat < s.params.symCount)

/-- OUT holds at most OUT_DEPTH entries, each as R51 allows (R50). -/
abbrev State.OutOk (s : State) : Prop := s.out.length ≤ s.params.outDepth ∧ ∀ e ∈ s.out, s.EntryOk e

/-- The error registers agree (R48, R280): LAST is OK or an error pair, STICKY is 1 iff FIRST holds a failure, and a failed
last command leaves STICKY = 1. -/
abbrev State.ErrOk (s : State) : Prop :=
  ((s.lastCode = 0 ∧ s.lastSub = 0) ∨ IsErrorPair s.lastCode s.lastSub) ∧
    (s.sticky = true → IsErrorPair s.firstCode s.firstSub) ∧
    (s.sticky = false → s.firstCode = 0 ∧ s.firstSub = 0) ∧
    (s.lastCode ≠ 0 → s.sticky = true)

/-- In phase IDLE there is no tree, no code and no session (R34, R38, R40, R42, R44, R145). -/
abbrev State.IdleOk (s : State) : Prop :=
  s.treeArity = 0 ∧ s.nodes = [] ∧ s.nodeCount = 0 ∧ s.leafCount = 0 ∧ s.pad = 0 ∧ s.root = 0 ∧ s.codes = [] ∧
    s.decState = .idle ∧ s.cursor = 0

/-- NFREQ of the node at an index; 0 where there is none. -/
def nfreqAt (nodes : List Node) (c : NodeIdx) : Nat := ((nodes[c.toNat]?).map Node.nfreq).getD 0

/-- Node `e.1` at index `e.2` is internal with n children of smaller index, its NFREQ their sum (R39, R41(d)). -/
abbrev InternalOk (nodes : List Node) (n : Nat) (e : Node × Nat) : Prop :=
  e.1.kindCode = 3 ∧ e.1.children.length = n ∧ e.1.children.all (fun c => decide (c.toNat < e.2)) = true ∧
    e.1.nfreq = (e.1.children.map (nfreqAt nodes)).sum

/-- The tree of phase BUILT (R38, R40, R41, R185, R188, R189). -/
abbrev State.TreeOk (s : State) : Prop :=
  (2 ≤ s.treeArity.toNat ∧ s.treeArity.toNat ≤ s.params.nMax) ∧
    1 ≤ s.kcount.toNat ∧
    (s.nodes.length = s.nodeCount.toNat ∧ s.nodeCount.toNat ≤ s.params.nodeMax) ∧
    s.root.toNat + 1 = s.nodeCount.toNat ∧
    s.pad.toNat = (if s.kcount.toNat = 1 then 0 else padCount s.kcount.toNat s.treeArity.toNat) ∧
    s.leafCount.toNat = s.kcount.toNat + s.pad.toNat ∧
    (s.leafCount.toNat - 1) % (s.treeArity.toNat - 1) = 0 ∧
    s.nodeCount.toNat = s.leafCount.toNat + (s.leafCount.toNat - 1) / (s.treeArity.toNat - 1) ∧
    s.nodes.take s.kcount.toNat = enumerateLeaves s ∧
    (s.nodes.drop s.kcount.toNat).take s.pad.toNat = List.replicate s.pad.toNat .dummy ∧
    (∀ e ∈ (s.nodes.drop s.leafCount.toNat).zipIdx s.leafCount.toNat, InternalOk s.nodes s.treeArity.toNat e) ∧
    (∀ e < s.root.toNat, (s.nodes.flatMap Node.children).count (BitVec.ofNat 18 e) = 1)

/-- The code table is the one of the tree (R42, R195). -/
abbrev State.CodesOk (s : State) : Prop := s.codes = generateCodes s.nodes s.root.toNat []

/-- In an active session the cursor stands at the root or at an internal node (R251, R253); whenever no session is
active it is the root (R44; assumption 23). -/
abbrev State.CursorOk (s : State) : Prop :=
  (s.decState = .active → s.cursor = s.root ∨ (s.nodeAt s.cursor.toNat).map Node.kindCode = some 3) ∧
    (s.decState ≠ .active → s.cursor = s.root)

/-- THE INVARIANT. -/
abbrev State.Inv (s : State) : Prop :=
  s.params.Legal ∧ s.FreqOk ∧ s.OutOk ∧ s.ErrOk ∧ (s.phase = .idle → s.IdleOk) ∧
    (s.phase = .built → s.TreeOk ∧ s.CodesOk ∧ s.CursorOk)

/-- A step or command that does not stop the machine with a fault. -/
def NoFault (o : Host.Outcome State Fault Refusal) : Prop := ∀ f, o ≠ .fault f

/-! ### Holding (R46, R142) -/

/-- The command's pseudocode waits on the state. -/
abbrev Waits (i : Instr) (s : State) : Prop := (commandBody i s).isWait = true

/-! ### Runs of commands -/

/-- Commands one after the other, each by `exec`, up to the first fault or refusal. -/
def execAll : List Instr → State → Host.Outcome State Fault Refusal
  | [], s => .next s
  | i :: rest, s =>
    match exec i s with
    | .next t => execAll rest t
    | .fault f => .fault f
    | .refused r => .refused r

/-! ### Paths in the tree (R193) -/

/-- The node reached from an index by taking child after child. -/
def walk (nodes : List Node) : Nat → List Digit → Option Node
  | i, [] => nodes[i]?
  | i, d :: ds =>
    match (nodes[i]?).bind fun e => e.children[d.toNat]? with
    | none => none
    | some c => walk nodes c.toNat ds

/-- The concatenated codes of a text; a symbol with no code adds nothing (R232). -/
def State.textDigits (s : State) (text : List Nat) : List Digit := text.flatMap fun x => (s.codeAt x).getD []

/-! ### The spec's tables, written out -/

/-- A row of the opcode map (R113), with the command its fields give (R112) by arithmetic on the word's value. -/
structure MapRow where
  op : Nat
  matchWord : Word
  mask : Word
  command : Nat → Instr

/-- R113, row by row; fields of R111 and R112. -/
def opcodeMap : List MapRow :=
  [⟨0x00, 0x00000000, 0xFFFFFFFF, fun _ => .nop⟩,
   ⟨0x01, 0x01000000, 0xFFFFFFFF, fun _ => .clear⟩,
   ⟨0x02, 0x02000000, 0xFFFFFF00, fun w => .setArity (w % 2 ^ 8)⟩,
   ⟨0x03, 0x03000000, 0xFFFF0000, fun w => .count (w % 2 ^ 16)⟩,
   ⟨0x04, 0x04000000, 0xFFFFFFFF, fun _ => .build⟩,
   ⟨0x05, 0x05000000, 0xFFFF0000, fun w => .encSym (w % 2 ^ 16)⟩,
   ⟨0x06, 0x06000000, 0xFFFFFFFF, fun _ => .decStart⟩,
   ⟨0x07, 0x07000000, 0xFFFFFFF0, fun w => .decDigit (w % 2 ^ 4)⟩,
   ⟨0x08, 0x08000000, 0xFFFFFFFF, fun _ => .decEnd⟩,
   ⟨0x09, 0x09000000, 0xFFFFFFFF, fun _ => .errAck⟩,
   ⟨0x0A, 0x0A000000, 0xFFFF0000, fun w => .qFreq (w % 2 ^ 16)⟩,
   ⟨0x0B, 0x0B000000, 0xFFFF0000, fun w => .qCode (w % 2 ^ 16)⟩,
   ⟨0x0C, 0x0C000000, 0xFFFC0000, fun w => .qNode (w % 2 ^ 18)⟩,
   ⟨0x0D, 0x0D000000, 0xFFC00000, fun w => .qChild (w % 2 ^ 18) (w / 2 ^ 18 % 2 ^ 4)⟩]

/-- The encoding examples of R119, line by line ('a' = 0x61, 'b' = 0x62, 'c' = 0x63). -/
def encodingExamples : List (Instr × Word) :=
  [(.nop, 0x00000000), (.clear, 0x01000000), (.setArity 3, 0x02000003), (.count 0x61, 0x03000061), (.build, 0x04000000),
   (.encSym 0x63, 0x05000063), (.decStart, 0x06000000), (.decDigit 2, 0x07000002), (.decEnd, 0x08000000),
   (.errAck, 0x09000000), (.qFreq 0x62, 0x0A000062), (.qCode 0x62, 0x0B000062), (.qNode 5, 0x0C000005),
   (.qChild 6 2, 0x0D080006)]

/-- The registers whose read returns one value in a state with BUSY = 0, OUT_DATA apart, with that value as the sum of its
fields at their places (R54 to R60, R62 to R68). -/
def registerValues (s : State) : List (Nat × Nat) :=
  [(0x00, 0x48554631),
   (0x04, s.params.symw + 2 ^ 8 * s.params.nMax + 2 ^ 16 * s.params.freqw),
   (0x08, s.params.outDepth),
   (0x0C, 0),
   (0x10, 2 * s.phase.code.toNat + 4 * s.decState.code.toNat + 16 * (if s.lastCode = 0 then 0 else 1) +
      32 * s.sticky.toNat + 64 * s.ovr.toNat + 256 * (if s.out = [] then 1 else 0) +
      512 * (if s.out.length = s.params.outDepth then 1 else 0)),
   (0x14, s.lastCode.toNat + 2 ^ 8 * s.lastSub.toNat + 2 ^ 16 * s.firstCode.toNat + 2 ^ 24 * s.firstSub.toNat),
   (0x18, s.res0.toNat),
   (0x1C, s.res1.toNat),
   (0x24, s.out.length),
   (0x28, s.arity.toNat + 2 ^ 8 * s.treeArity.toNat),
   (0x2C, s.kcount.toNat),
   (0x30, s.total),
   (0x34, s.nodeCount.toNat),
   (0x38, s.root.toNat),
   (0x3C, s.leafCount.toNat + 2 ^ 24 * s.pad.toNat)]

/-- The (code, sub-code) pairs that R280 lets a command complete with, OK first. -/
def completionCodes : Instr → List (BitVec 8 × BitVec 4)
  | .nop => [(0, 0)]
  | .clear => [(0, 0)]
  | .setArity _ => [(0, 0)]
  | .count _ => [(0, 0), (0x11, 1), (0x14, 0), (0x15, 0)]
  | .build => [(0, 0), (0x11, 1), (0x01, 0), (0x12, 0), (0x13, 0)]
  | .encSym _ => [(0, 0), (0x11, 2), (0x02, 1), (0x02, 2)]
  | .decStart => [(0, 0), (0x11, 2)]
  | .decDigit _ => [(0, 0), (0x11, 2), (0x11, 3), (0x03, 1), (0x03, 2), (0x03, 4), (0x03, 5)]
  | .decEnd => [(0, 0), (0x11, 2), (0x11, 3), (0x03, 3), (0x03, 4)]
  | .errAck => [(0, 0)]
  | .qFreq _ => [(0, 0), (0x14, 0)]
  | .qCode _ => [(0, 0), (0x11, 2), (0x02, 1), (0x02, 2)]
  | .qNode _ => [(0, 0), (0x11, 2), (0x16, 1)]
  | .qChild _ _ => [(0, 0), (0x11, 2), (0x16, 1), (0x16, 2), (0x16, 3)]

end Sys2Proof.Machine
end

