-- ==== Sys2Proof/Certificates/Slice0/Obligations.lean ====
section
/-! DEFINITION. Certificates/Slice0/Obligations.lean: the statements for the provers. An error is written as
`s.complete code sub`, whose meaning is stated by CompletionWritesTheErrorRegisters. -/

open Sys2Proof Sys2Proof.Machine

/-! ### Encoding (30_encoding.md) -/

/-- R119: the fourteen example lines encode to the words given and the words decode to the lines. -/
def Obligations.SpecEncodingExamplesDecode : Prop :=
  ∀ r ∈ encodingExamples, encode r.1 = r.2 ∧ decode r.2 = .command r.1

/-- R111 to R114: decoding the word of a well-formed command gives the command back, whatever its operands. -/
def Obligations.DecodeOfEncodeIsTheCommand : Prop :=
  ∀ i : Instr, i.wellFormed = true → decode (encode i) = .command i

/-- R111 to R117: a word that decodes to a command is that command's word, and its operands fit their fields. -/
def Obligations.DecodedCommandEncodesBack : Prop :=
  ∀ (w : Word) (i : Instr), decode w = .command i → i.wellFormed = true ∧ encode i = w

/-- R114: decode follows the opcode map, total on every word. `opcodeMap` is R113's table with the fields of R112. -/
def Obligations.DecodeFollowsTheOpcodeMap : Prop :=
  ∀ w : Word,
    (0x0D < w.toNat / 2 ^ 24 → decode w = .illegal .unassignedOpcode) ∧
    (∀ row ∈ opcodeMap, w.toNat / 2 ^ 24 = row.op →
      (w &&& row.mask ≠ row.matchWord → decode w = .illegal .reservedBit) ∧
      (w &&& row.mask = row.matchWord → decode w = .command (row.command w.toNat)))

/-! ### The engine (40_control.md) -/

/-- R140: the engine has a step only when BUSY = 1, and it runs the latched INIT, the illegal word's error or the decoded
command. With BUSY = 0 the model's step leaves the block as it is (assumption 3). -/
def Obligations.EngineStepRunsTheLatchedCommand : Prop :=
  ∀ s : State, s.nextTurn = .engine →
    (s.busy = false → step s = .next { s with turns := s.turns.tail }) ∧
    (s.busy = true → s.cmdl = .init → step s = .next { s with turns := s.turns.tail, busy := false }) ∧
    (∀ w, s.busy = true → s.cmdl = .word w → decode w = .illegal .unassignedOpcode →
      step s = .next (State.complete { s with turns := s.turns.tail } 0x10 1)) ∧
    (∀ w, s.busy = true → s.cmdl = .word w → decode w = .illegal .reservedBit →
      step s = .next (State.complete { s with turns := s.turns.tail } 0x10 2)) ∧
    (∀ w i, s.busy = true → s.cmdl = .word w → decode w = .command i → step s = exec i { s with turns := s.turns.tail })

/-- R115: executing an illegal word raises IllegalCommand with the sub-code of its kind and changes nothing but ERR and
BUSY, in every phase. -/
def Obligations.IllegalWordOnlyReportsItsError : Prop :=
  ∀ (s : State) (w : Word), s.nextTurn = .engine → s.busy = true → s.cmdl = .word w →
    (0x0D < w.toNat / 2 ^ 24 ∨ ∃ row ∈ opcodeMap, w.toNat / 2 ^ 24 = row.op ∧ w &&& row.mask ≠ row.matchWord) →
    ∃ t, step s = .next t ∧ t.lastCode = 0x10 ∧ t.lastSub = (if 0x0D < w.toNat / 2 ^ 24 then 1 else 2) ∧
      t = { s with turns := s.turns.tail, lastCode := t.lastCode, lastSub := t.lastSub, firstCode := t.firstCode,
                   firstSub := t.firstSub, sticky := true, busy := false }

/-- R141: `complete(code, sub)`. -/
def Obligations.CompletionWritesTheErrorRegisters : Prop :=
  ∀ (s : State) (code : BitVec 8) (sub : BitVec 4),
    (code = 0 → s.complete code sub = { s with lastCode := code, lastSub := sub, busy := false }) ∧
    (code ≠ 0 → s.sticky = true → s.complete code sub = { s with lastCode := code, lastSub := sub, busy := false }) ∧
    (code ≠ 0 → s.sticky = false →
      s.complete code sub = { s with lastCode := code, lastSub := sub, firstCode := code, firstSub := sub, sticky := true,
                                     busy := false })

/-- R141, R48, R284: from a state that meets the invariant every command answers a next state; wherever one answers, it has
completed unless it is held: BUSY is 0 after it, and FIRST and STICKY record the first failure only. That a held command answers
the state it was given is the model's choice (assumption 3). -/
def Obligations.EveryCommandCompletesOrHolds : Prop :=
  (∀ (i : Instr) (s : State), s.Inv → ∃ t, exec i s = .next t) ∧
  ∀ (i : Instr) (s t : State), exec i s = .next t →
    (Waits i s → t = s) ∧
    (¬ Waits i s →
      t.busy = false ∧
      (t.lastCode ≠ 0 → t.sticky = true) ∧
      (t.lastCode ≠ 0 → s.sticky = false → t.firstCode = t.lastCode ∧ t.firstSub = t.lastSub) ∧
      (t.lastCode ≠ 0 → s.sticky = true → t.firstCode = s.firstCode ∧ t.firstSub = s.firstSub) ∧
      (t.lastCode = 0 → i ≠ .clear → i ≠ .errAck →
        t.sticky = s.sticky ∧ t.firstCode = s.firstCode ∧ t.firstSub = s.firstSub))

/-- R283, R141: a failing command changes nothing but ERR and BUSY; DEC_DIGIT and DEC_END, the only ones that list writes
before a raise, may change DEC_STATE and CURSOR too. -/
def Obligations.FailingCommandChangesNothingElse : Prop :=
  ∀ (i : Instr) (s t : State), exec i s = .next t → t.lastCode ≠ 0 →
    t = { s with lastCode := t.lastCode, lastSub := t.lastSub, firstCode := t.firstCode, firstSub := t.firstSub,
                 sticky := t.sticky, busy := t.busy, decState := t.decState, cursor := t.cursor } ∧
    ((∀ d, i ≠ .decDigit d) → i ≠ .decEnd → t.decState = s.decState ∧ t.cursor = s.cursor)

/-- R280: a completing command carries one of the codes the table lists for it, and an illegal word one of
IllegalCommand's. -/
def Obligations.CompletionCodesAreThoseOfTheTable : Prop :=
  (∀ (i : Instr) (s t : State), exec i s = .next t → ¬ Waits i s → (t.lastCode, t.lastSub) ∈ completionCodes i) ∧
  (∀ (w : Word) (why : Illegal) (s t : State), decode w = .illegal why → runWord w s = .next t →
    (t.lastCode, t.lastSub) = (0x10, 1) ∨ (t.lastCode, t.lastSub) = (0x10, 2))

/-! ### The host's accesses (20_memory.md) -/

/-- R86: a CMD write is accepted iff BUSY = 0, and dropped with OVR otherwise; the command in progress and the error
registers are unchanged (R282). -/
def Obligations.CmdWriteIsAcceptedOnlyWhenIdle : Prop :=
  ∀ (s : State) (v : Word) (rest : List Turn), s.turns = .write 0x0C 4 v :: rest →
    (s.busy = false → step s = .next { s with turns := rest, cmdl := .word v, busy := true }) ∧
    (s.busy = true → step s = .next { s with turns := rest, ovr := true })

/-- R85: a write to a read-only register or a reserved offset is ignored. -/
def Obligations.WritesElsewhereAreIgnored : Prop :=
  ∀ (s : State) (off : Nat) (v : Word) (rest : List Turn), s.turns = .write off 4 v :: rest → off % 4 = 0 → off < 0x100 →
    off ≠ 0x0C → step s = .next { s with turns := rest }

/-- R88: a read of OUT_DATA returns and removes the oldest entry in R61's format, at any time; on an empty OUT it returns 0
and changes nothing. -/
def Obligations.OutDataReadPopsTheOldestEntry : Prop :=
  ∀ (s : State) (rest : List Turn), s.turns = .read 0x20 4 :: rest →
    (s.out = [] → step s = .next { s with turns := rest, answers := s.answers ++ [0] }) ∧
    (∀ d es, s.out = ⟨.digit, d⟩ :: es →
      step s = .next { s with turns := rest, out := es, answers := s.answers ++ [BitVec.ofNat 32 (0x90000000 + d.toNat)] }) ∧
    (∀ y es, s.out = ⟨.symbol, y⟩ :: es →
      step s = .next { s with turns := rest, out := es, answers := s.answers ++ [BitVec.ofNat 32 (0xA0000000 + y.toNat)] })

/-- R83 with R54 to R68: with BUSY = 0 a read of a register other than OUT_DATA returns its fields at their places and has
no side effect on the block. -/
def Obligations.IdleReadReturnsTheRegister : Prop :=
  ∀ (s : State) (rest : List Turn) (off v : Nat), s.Inv → s.busy = false → s.turns = .read off 4 :: rest →
    (off, v) ∈ registerValues s →
    step s = .next { s with turns := rest, answers := s.answers ++ [BitVec.ofNat 32 v] }

/-- R84: while BUSY = 1 the exact registers return their value, the others a free value; no read but OUT_DATA's changes the
block. The free value is the model's `Config.unspecifiedRead` at a counter (assumption 5), and which bits of STATUS it
supplies is assumption 6; the statement holds whatever the values are. -/
def Obligations.BusyReadIsExactOrFree : Prop :=
  ∀ (s : State) (rest : List Turn) (off : Nat), s.params.Legal → s.busy = true → s.turns = .read off 4 :: rest →
    (off = 0x00 → step s = .next { s with turns := rest, answers := s.answers ++ [0x48554631] }) ∧
    (off = 0x04 → step s = .next { s with turns := rest, answers := s.answers ++
      [BitVec.ofNat 32 (s.params.symw + 2 ^ 8 * s.params.nMax + 2 ^ 16 * s.params.freqw)] }) ∧
    (off = 0x08 → step s = .next { s with turns := rest, answers := s.answers ++ [BitVec.ofNat 32 s.params.outDepth] }) ∧
    (off = 0x0C → step s = .next { s with turns := rest, answers := s.answers ++ [0] }) ∧
    (off = 0x24 → s.OutOk →
      step s = .next { s with turns := rest, answers := s.answers ++ [BitVec.ofNat 32 s.out.length] }) ∧
    (off = 0x10 → ∃ w : Word, step s = .next { s with turns := rest, answers := s.answers ++ [w], draws := s.draws + 1 } ∧
      w.getLsbD 0 = true ∧ w.getLsbD 6 = s.ovr ∧ w.getLsbD 7 = s.hold ∧ w.getLsbD 8 = decide (s.out = []) ∧
      w.getLsbD 9 = decide (s.out.length = s.params.outDepth) ∧ w.toNat < 2 ^ 10) ∧
    (off ∈ [0x14, 0x18, 0x1C, 0x28, 0x2C, 0x30, 0x34, 0x38, 0x3C] →
      step s = .next { s with turns := rest, answers := s.answers ++ [Config.unspecifiedRead s.draws],
                              draws := s.draws + 1 })

/-- R69: a reserved offset reads 0 and ignores writes, with no side effect, whether BUSY or not. -/
def Obligations.ReservedOffsetsReadZeroAndIgnoreWrites : Prop :=
  ∀ (s : State) (rest : List Turn) (off : Nat) (v : Word), 0x40 ≤ off → off ≤ 0xFC → off % 4 = 0 →
    (s.turns = .read off 4 :: rest → step s = .next { s with turns := rest, answers := s.answers ++ [0] }) ∧
    (s.turns = .write off 4 v :: rest → step s = .next { s with turns := rest })

/-- R81: an access that is not a 32-bit access at a multiple of 4 within the window is refused. -/
def Obligations.UnadmittedAccessIsRefused : Prop :=
  ∀ (s : State) (rest : List Turn) (off size : Nat) (v : Word), size ≠ 4 ∨ off % 4 ≠ 0 ∨ 0x100 ≤ off →
    (s.turns = .read off size :: rest → step s = .refused .accessNotAdmitted) ∧
    (s.turns = .write off size v :: rest → step s = .refused .accessNotAdmitted)

/-! ### Reset (10_state.md R71, 70_reset_and_hazards.md) -/

/-- R71: the reset state, and INIT's completion changes BUSY only. -/
def Obligations.ResetStateIsTheTable : Prop :=
  let s := State.reset
  (s.arity = 0 ∧ s.phase = .idle ∧ (∀ x, s.freqAt x = 0) ∧ s.kcount = 0 ∧ s.total = 0 ∧ s.treeArity = 0 ∧
    (∀ i, s.nodeAt i = none) ∧ s.nodeCount = 0 ∧ s.leafCount = 0 ∧ s.pad = 0 ∧ s.root = 0 ∧ (∀ x, s.codeAt x = none) ∧
    s.pq = [] ∧ s.decState = .idle ∧ s.cursor = 0 ∧ s.busy = true ∧ s.cmdl = .init ∧ s.ovr = false ∧ s.lastCode = 0 ∧
    s.lastSub = 0 ∧ s.firstCode = 0 ∧ s.firstSub = 0 ∧ s.sticky = false ∧ s.res0 = 0 ∧ s.res1 = 0 ∧ s.out = []) ∧
  step s = .next { s with busy := false }

/-- R310: asserting reset at any time replaces the entire state of the block with the reset state at its parameters. The
turns to come, the answers given and the draws used up are outside the block (assumption 13). -/
def Obligations.ResetReplacesTheWholeState : Prop :=
  ∀ (s : State) (rest : List Turn), s.turns = .reset :: rest →
    step s = .next { State.resetWith s.params with turns := rest, answers := s.answers, draws := s.draws }

/-! ### The commands, rule by rule: every branch, its conditions and its whole next state -/

/-- R144, R146: NOP changes LAST and BUSY only; ERR_ACK also clears FIRST, STICKY and OVR. -/
def Obligations.NopAndErrAckFollowTheirRules : Prop :=
  ∀ s : State,
    exec .nop s = .next { s with lastCode := 0, lastSub := 0, busy := false } ∧
    exec .errAck s = .next { s with firstCode := 0, firstSub := 0, sticky := false, ovr := false, lastCode := 0,
                                    lastSub := 0, busy := false }

/-- R145: CLEAR discards counts, tree, codes, session, results, output and the first error; ARITY and OVR stay. -/
def Obligations.ClearFollowsItsRule : Prop :=
  ∀ s : State, ∃ t, exec .clear s = .next t ∧ (∀ x, t.freqAt x = 0) ∧ (∀ x, t.codeAt x = none) ∧
    t = { s with phase := .idle, freq := t.freq, codes := t.codes, kcount := 0, total := 0, treeArity := 0, nodes := [],
                 nodeCount := 0, leafCount := 0, pad := 0, root := 0, decState := .idle, cursor := 0, out := [],
                 res0 := 0, res1 := 0, firstCode := 0, firstSub := 0, sticky := false, lastCode := 0, lastSub := 0,
                 busy := false }

/-- R180: SET_ARITY stores every 8-bit value, in every phase, and touches nothing of the tree. -/
def Obligations.SetArityFollowsItsRule : Prop :=
  ∀ (s : State) (n : BitVec 8), exec (.setArity n.toNat) s =
    .next { s with arity := n, lastCode := 0, lastSub := 0, busy := false }

/-- R160: COUNT, its errors in order, its effect on FREQ, KCOUNT and TOTAL, and that its additions never wrap where the counts
agree with R36 and R37. -/
def Obligations.CountFollowsItsRule : Prop :=
  ∀ (s : State) (sym : Nat),
    (s.phase ≠ .idle → exec (.count sym) s = .next (s.complete 0x11 1)) ∧
    (s.phase = .idle → s.params.symCount ≤ sym → exec (.count sym) s = .next (s.complete 0x14 0)) ∧
    (s.phase = .idle → sym < s.params.symCount → s.total = s.params.freqMax →
      exec (.count sym) s = .next (s.complete 0x15 0)) ∧
    (s.phase = .idle → sym < s.params.symCount → s.total ≠ s.params.freqMax →
      ∃ t, exec (.count sym) s = .next t ∧
        (∀ x, t.freqAt x = if x = sym then s.freqAt sym + 1 else s.freqAt x) ∧
        t = { s with freq := t.freq, kcount := if s.freqAt sym = 0 then s.kcount + 1 else s.kcount,
                     total := s.total + 1, lastCode := 0, lastSub := 0, busy := false } ∧
        (s.FreqOk → s.freqAt sym ≤ s.total ∧ s.total < s.params.freqMax))

/-- R161: Q_FREQ, in both phases. -/
def Obligations.QFreqFollowsItsRule : Prop :=
  ∀ (s : State) (sym : Nat),
    (s.params.symCount ≤ sym → exec (.qFreq sym) s = .next (s.complete 0x14 0)) ∧
    (sym < s.params.symCount → exec (.qFreq sym) s =
      .next { s with res0 := BitVec.ofNat 32 (s.freqAt sym), res1 := 0, lastCode := 0, lastSub := 0, busy := false })

/-- R190, R191: BUILD, its errors in order and what a successful one commits; everything else stays. `s.buildResult` is the
tree that the steps R184 to R189 make. The value of PQ, which R43 gives no meaning outside BUILD, is the model's (assumption 11),
and that BUILD leaves CURSOR at ROOT is read from R44's last sentence and not from R191 (assumption 23). -/
def Obligations.BuildFollowsItsRule : Prop :=
  ∀ s : State,
    (s.phase ≠ .idle → exec .build s = .next (s.complete 0x11 1)) ∧
    (s.phase = .idle → s.arity.toNat < 2 → exec .build s = .next (s.complete 0x01 0)) ∧
    (s.phase = .idle → 2 ≤ s.arity.toNat → s.params.nMax < s.arity.toNat → exec .build s = .next (s.complete 0x12 0)) ∧
    (s.phase = .idle → 2 ≤ s.arity.toNat → s.arity.toNat ≤ s.params.nMax → s.kcount = 0 →
      exec .build s = .next (s.complete 0x13 0)) ∧
    (s.phase = .idle → 2 ≤ s.arity.toNat → s.arity.toNat ≤ s.params.nMax → s.kcount ≠ 0 →
      exec .build s = .next { s with
        nodes := s.buildResult.nodes, pq := s.buildResult.pq,
        codes := generateCodes s.buildResult.nodes s.buildResult.root s.codes,
        leafCount := BitVec.ofNat 17 s.buildResult.leafCount, pad := BitVec.ofNat 8 s.buildResult.pad,
        root := BitVec.ofNat 18 (s.buildResult.nodes.length - 1), nodeCount := BitVec.ofNat 18 s.buildResult.nodes.length,
        cursor := BitVec.ofNat 18 (s.buildResult.nodes.length - 1), treeArity := s.arity, phase := .built, lastCode := 0,
        lastSub := 0, busy := false })

/-- R200: Q_NODE. -/
def Obligations.QNodeFollowsItsRule : Prop :=
  ∀ (s : State) (x : Nat),
    (s.phase ≠ .built → exec (.qNode x) s = .next (s.complete 0x11 2)) ∧
    (s.phase = .built → s.nodeCount.toNat ≤ x → exec (.qNode x) s = .next (s.complete 0x16 1)) ∧
    (∀ e, s.phase = .built → x < s.nodeCount.toNat → s.nodes[x]? = some e →
      ∃ r1 : Word, exec (.qNode x) s =
        .next { s with res0 := BitVec.ofNat 32 e.nfreq, res1 := r1, lastCode := 0, lastSub := 0, busy := false } ∧
      (∀ sym f, e = .leaf sym f → r1 = (1#2 ++ 0#14 ++ BitVec.ofNat 16 sym : BitVec (2 + 14 + 16))) ∧
      (e = .dummy → r1 = 0x80000000) ∧
      (∀ f cs, e = .internal f cs → r1 = 0xC0000000))

/-- R201: Q_CHILD, its checks in order. -/
def Obligations.QChildFollowsItsRule : Prop :=
  ∀ (s : State) (x ci : Nat),
    (s.phase ≠ .built → exec (.qChild x ci) s = .next (s.complete 0x11 2)) ∧
    (s.phase = .built → s.nodeCount.toNat ≤ x → exec (.qChild x ci) s = .next (s.complete 0x16 1)) ∧
    (∀ e, s.phase = .built → x < s.nodeCount.toNat → s.nodes[x]? = some e →
      (e.kindCode ≠ 3 → exec (.qChild x ci) s = .next (s.complete 0x16 2)) ∧
      (e.kindCode = 3 → s.treeArity.toNat ≤ ci → exec (.qChild x ci) s = .next (s.complete 0x16 3)) ∧
      (∀ c, e.kindCode = 3 → ci < s.treeArity.toNat → e.children[ci]? = some c →
        exec (.qChild x ci) s =
          .next { s with res0 := BitVec.ofNat 32 c.toNat, res1 := 0, lastCode := 0, lastSub := 0, busy := false }))

/-- R230: ENC_SYM, its errors in order, its hold, and the digits it appends, first digit first. That exec of a held command
answers the state it was given is the model's choice (assumption 3; R142: the engine has no step). -/
def Obligations.EncSymFollowsItsRule : Prop :=
  ∀ (s : State) (sym : Nat),
    (s.phase ≠ .built → exec (.encSym sym) s = .next (s.complete 0x11 2)) ∧
    (s.phase = .built → s.params.symCount ≤ sym → exec (.encSym sym) s = .next (s.complete 0x02 1)) ∧
    (s.phase = .built → sym < s.params.symCount → s.codeAt sym = none → exec (.encSym sym) s = .next (s.complete 0x02 2)) ∧
    (∀ code, s.phase = .built → sym < s.params.symCount → s.codeAt sym = some code →
      (¬ code.length ≤ s.params.outDepth - s.out.length → exec (.encSym sym) s = .next s) ∧
      (code.length ≤ s.params.outDepth - s.out.length → exec (.encSym sym) s =
        .next { s with out := s.out ++ code.map (fun d => ⟨.digit, BitVec.ofNat 16 d.toNat⟩), lastCode := 0, lastSub := 0,
                       busy := false }))

/-- R231: Q_CODE: the length, and digit j of the first eight in bits [4j+3:4j]; it never holds. -/
def Obligations.QCodeFollowsItsRule : Prop :=
  ∀ (s : State) (sym : Nat),
    (s.phase ≠ .built → exec (.qCode sym) s = .next (s.complete 0x11 2)) ∧
    (s.phase = .built → s.params.symCount ≤ sym → exec (.qCode sym) s = .next (s.complete 0x02 1)) ∧
    (s.phase = .built → sym < s.params.symCount → s.codeAt sym = none → exec (.qCode sym) s = .next (s.complete 0x02 2)) ∧
    (∀ code, s.phase = .built → sym < s.params.symCount → s.codeAt sym = some code → exec (.qCode sym) s =
      .next { s with res0 := BitVec.ofNat 32 code.length,
                     res1 := BitVec.ofNat 32 (((code.take 8).zipIdx.map fun e => e.1.toNat * 2 ^ (4 * e.2)).sum),
                     lastCode := 0, lastSub := 0, busy := false })

/-- R250: DEC_START opens a session at the root from every decoder state. -/
def Obligations.DecStartFollowsItsRule : Prop :=
  ∀ s : State,
    (s.phase ≠ .built → exec .decStart s = .next (s.complete 0x11 2)) ∧
    (s.phase = .built → exec .decStart s =
      .next { s with decState := .active, cursor := s.root, lastCode := 0, lastSub := 0, busy := false })

/-- R251: DEC_DIGIT, every branch: the errors in order, the abort, the single-symbol root, descent, emission, the hold.
That exec of a held command answers the state it was given is the model's choice (assumption 3; R142: the engine has no step). -/
def Obligations.DecDigitFollowsItsRule : Prop :=
  ∀ (s : State) (dig : Nat),
    (s.phase ≠ .built → exec (.decDigit dig) s = .next (s.complete 0x11 2)) ∧
    (s.phase = .built → s.decState = .idle → exec (.decDigit dig) s = .next (s.complete 0x11 3)) ∧
    (s.phase = .built → s.decState = .aborted → exec (.decDigit dig) s = .next (s.complete 0x03 4)) ∧
    (s.phase = .built → s.decState = .active → s.treeArity.toNat ≤ dig →
      exec (.decDigit dig) s = .next (State.complete { s with decState := .aborted, cursor := s.root } 0x03 1)) ∧
    (∀ y f, s.phase = .built → s.decState = .active → dig < s.treeArity.toNat → s.nodes[s.cursor.toNat]? = some (.leaf y f) →
      (dig ≠ 0 →
        exec (.decDigit dig) s = .next (State.complete { s with decState := .aborted, cursor := s.root } 0x03 5)) ∧
      (dig = 0 → ¬ s.out.length < s.params.outDepth → exec (.decDigit dig) s = .next s) ∧
      (dig = 0 → s.out.length < s.params.outDepth → exec (.decDigit dig) s =
        .next { s with out := s.out ++ [⟨.symbol, BitVec.ofNat 16 y⟩], lastCode := 0, lastSub := 0, busy := false })) ∧
    (∀ f cs e q, s.phase = .built → s.decState = .active → dig < s.treeArity.toNat →
      s.nodes[s.cursor.toNat]? = some (.internal f cs) → cs[dig]? = some e → s.nodes[e.toNat]? = some q →
      (q.kindCode = 3 → exec (.decDigit dig) s =
        .next { s with cursor := e, lastCode := 0, lastSub := 0, busy := false }) ∧
      (∀ y g, q = .leaf y g → ¬ s.out.length < s.params.outDepth → exec (.decDigit dig) s = .next s) ∧
      (∀ y g, q = .leaf y g → s.out.length < s.params.outDepth → exec (.decDigit dig) s =
        .next { s with out := s.out ++ [⟨.symbol, BitVec.ofNat 16 y⟩], cursor := s.root, lastCode := 0, lastSub := 0,
                       busy := false }) ∧
      (q = .dummy →
        exec (.decDigit dig) s = .next (State.complete { s with decState := .aborted, cursor := s.root } 0x03 2)))

/-- R252: DEC_END closes the session and checks that it ended between codes. -/
def Obligations.DecEndFollowsItsRule : Prop :=
  ∀ s : State,
    (s.phase ≠ .built → exec .decEnd s = .next (s.complete 0x11 2)) ∧
    (s.phase = .built → s.decState = .idle → exec .decEnd s = .next (s.complete 0x11 3)) ∧
    (s.phase = .built → s.decState = .aborted →
      exec .decEnd s = .next (State.complete { s with decState := .idle, cursor := s.root } 0x03 4)) ∧
    (s.phase = .built → s.decState = .active → s.cursor ≠ s.root →
      exec .decEnd s = .next (State.complete { s with decState := .idle, cursor := s.root } 0x03 3)) ∧
    (s.phase = .built → s.decState = .active → s.cursor = s.root →
      exec .decEnd s = .next { s with decState := .idle, lastCode := 0, lastSub := 0, busy := false })

/-- R39, I10 (assumption 9): a read of a node entry or child position that holds no value stops the model with a fault. -/
def Obligations.ValuelessNodeReadsFault : Prop :=
  ∀ s : State, s.phase = .built →
    (∀ x, x < s.nodeCount.toNat → s.nodes[x]? = none →
      exec (.qNode x) s = .fault .nodeHoldsNoValue ∧ ∀ ci, exec (.qChild x ci) s = .fault .nodeHoldsNoValue) ∧
    (∀ x ci e, x < s.nodeCount.toNat → s.nodes[x]? = some e → e.kindCode = 3 → ci < s.treeArity.toNat →
      e.children[ci]? = none → exec (.qChild x ci) s = .fault .childHoldsNoValue) ∧
    (∀ dig, s.decState = .active → dig < s.treeArity.toNat →
      (s.nodes[s.cursor.toNat]? = none → exec (.decDigit dig) s = .fault .nodeHoldsNoValue) ∧
      (∀ e, s.nodes[s.cursor.toNat]? = some e → e.kindCode ≠ 1 → e.children[dig]? = none →
        exec (.decDigit dig) s = .fault .childHoldsNoValue) ∧
      (∀ e c, s.nodes[s.cursor.toNat]? = some e → e.children[dig]? = some c → s.nodes[c.toNat]? = none →
        exec (.decDigit dig) s = .fault .nodeHoldsNoValue))

/-! ### Holding (R46, R142) -/

/-- R46: HOLD is 1 iff BUSY = 1 and the latched command is an ENC_SYM or a DEC_DIGIT that has passed its checks and lacks
space in OUT. -/
def Obligations.HoldIsALackOfOutputSpace : Prop :=
  ∀ s : State, s.hold = true ↔ s.busy = true ∧ ∃ w i, s.cmdl = .word w ∧ decode w = .command i ∧ s.phase = .built ∧
    ((∃ sym code, i = .encSym sym ∧ sym < s.params.symCount ∧ s.codeAt sym = some code ∧
        s.params.outDepth - s.out.length < code.length) ∨
      (∃ dig, i = .decDigit dig ∧ s.decState = .active ∧ dig < s.treeArity.toNat ∧ s.params.outDepth ≤ s.out.length ∧
        ((∃ y f, s.nodes[s.cursor.toNat]? = some (.leaf y f) ∧ dig = 0) ∨
          (∃ f cs e y g, s.nodes[s.cursor.toNat]? = some (.internal f cs) ∧ cs[dig]? = some e ∧
            s.nodes[e.toNat]? = some (.leaf y g)))))

/-- R142: a held command is not complete and stays held, whatever turn is taken, until the host reads OUT_DATA or reset is
asserted. That the engine's turn then leaves the state as it is, is assumption 3. -/
def Obligations.HoldLastsUntilOutIsRead : Prop :=
  ∀ s : State, s.hold = true →
    (∀ t u, t ≠ .reset → t ≠ .read 0x20 4 → takeTurn t s = .next u → u.hold = true ∧ u.busy = true ∧ u.cmdl = s.cmdl ∧
      u.out = s.out) ∧
    (s.nextTurn = .engine → step s = .next { s with turns := s.turns.tail })

/-- R230, R322, R11: with OUT drained no command is held, so a host that drains OUT never hangs. -/
def Obligations.DrainedOutputEndsEveryHold : Prop :=
  ∀ s : State, s.Inv → s.out = [] → s.hold = false

/-! ### Who writes what (10_state.md) -/

/-- R34: a successful BUILD is the only command that sets BUILT, CLEAR the only one that sets IDLE. -/
def Obligations.OnlyBuildAndClearChangePhase : Prop :=
  ∀ (i : Instr) (s t : State), exec i s = .next t →
    (t.phase = .built → s.phase = .built ∨ (i = .build ∧ t.lastCode = 0)) ∧
    (t.phase = .idle → s.phase = .idle ∨ i = .clear)

/-- R49: only a successful query writes RES0 and RES1, and CLEAR clears them. -/
def Obligations.OnlyQueriesWriteResults : Prop :=
  ∀ (i : Instr) (s t : State), exec i s = .next t →
    (i = .clear → t.res0 = 0 ∧ t.res1 = 0) ∧
    (i ≠ .clear → (t.res0 ≠ s.res0 ∨ t.res1 ≠ s.res1) →
      t.lastCode = 0 ∧ ((∃ x, i = .qFreq x) ∨ (∃ x, i = .qCode x) ∨ (∃ x, i = .qNode x) ∨ ∃ x c, i = .qChild x c))

/-- R50: only ENC_SYM and DEC_DIGIT append to OUT, and no command but CLEAR removes from it. -/
def Obligations.OnlyEncodeAndDecodeAppendToOut : Prop :=
  ∀ (i : Instr) (s t : State), exec i s = .next t →
    (i = .clear → t.out = []) ∧
    (i ≠ .clear → ∃ es, t.out = s.out ++ es ∧
      (es ≠ [] → t.lastCode = 0 ∧ ((∃ x, i = .encSym x) ∨ ∃ d, i = .decDigit d)))

/-- R191, R35: in phase BUILT no command but CLEAR changes the tree, the code table or the counts. -/
def Obligations.BuiltTreeIsImmutable : Prop :=
  ∀ (i : Instr) (s t : State), exec i s = .next t → s.phase = .built → i ≠ .clear →
    t.phase = .built ∧ t.nodes = s.nodes ∧ t.nodeCount = s.nodeCount ∧ t.leafCount = s.leafCount ∧ t.pad = s.pad ∧
    t.root = s.root ∧ t.treeArity = s.treeArity ∧ t.codes = s.codes ∧ t.freq = s.freq ∧ t.kcount = s.kcount ∧
    t.total = s.total

/-- R32, R33, R47, R45 and the model's own fields: no command changes the parameters or the latch, only SET_ARITY writes ARITY, only
ERR_ACK clears OVR and no command sets it, only the decoder's commands and CLEAR write the session, but for BUILD, which leaves
CURSOR at ROOT (R44; assumption 23), and no command takes turns, answers or draws. -/
def Obligations.OtherRegistersHaveTheirOneWriter : Prop :=
  ∀ (i : Instr) (s t : State), exec i s = .next t →
    t.params = s.params ∧ t.cmdl = s.cmdl ∧ t.turns = s.turns ∧ t.answers = s.answers ∧ t.draws = s.draws ∧
    ((∀ n, i ≠ .setArity n) → t.arity = s.arity) ∧ (i ≠ .errAck → t.ovr = s.ovr) ∧
    (i ≠ .clear → i ≠ .decStart → (∀ d, i ≠ .decDigit d) → i ≠ .decEnd →
      t.decState = s.decState ∧ (t.cursor = s.cursor ∨ (i = .build ∧ t.lastCode = 0 ∧ t.cursor = t.root)))

/-- R321: an overrun during ERR_ACK's own execution is cleared by that ERR_ACK and not reported. -/
def Obligations.OverrunDuringErrAckIsCleared : Prop :=
  ∀ (s : State) (v : Word) (rest : List Turn), s.busy = true → s.cmdl = .word (encode .errAck) →
    s.turns = .write 0x0C 4 v :: .engine :: rest →
    ∃ t u, step s = .next t ∧ t.ovr = true ∧ step t = .next u ∧ u.ovr = false ∧ u.busy = false ∧ u.cmdl = s.cmdl

/-! ### Counting (41_frequency_table.md) -/

/-- R163: the order of COUNT commands does not matter: two counts that succeed in one order succeed in the other and leave
the same state. -/
def Obligations.CountsCommute : Prop :=
  ∀ (s t : State) (a b : Nat), s.Inv → execAll [.count a, .count b] s = .next t → s.phase = .idle →
    s.total + 2 ≤ s.params.freqMax → a < s.params.symCount → b < s.params.symCount →
    execAll [.count b, .count a] s = .next t

/-- R162, R192: no frequency and no sum of the tree exceeds TOTAL, TOTAL fits FREQW bits, and the root's NFREQ is TOTAL. -/
def Obligations.NoFrequencyExceedsTotal : Prop :=
  ∀ s : State, s.Inv →
    s.total ≤ s.params.freqMax ∧ (∀ x, s.freqAt x ≤ s.total) ∧ (∀ e ∈ s.nodes, e.nfreq ≤ s.total) ∧
    (s.phase = .built → (s.nodes[s.root.toNat]?).map Node.nfreq = some s.total)

/-! ### Building (42_tree_builder.md) -/

/-- R184: the leaves are exactly the present symbols with their counts, in strictly ascending symbol order. -/
def Obligations.LeavesArePresentSymbolsInOrder : Prop :=
  ∀ s : State,
    (∀ e, e ∈ enumerateLeaves s ↔ ∃ x, x < s.params.symCount ∧ s.freqAt x ≠ 0 ∧ e = .leaf x (s.freqAt x)) ∧
    (enumerateLeaves s).Pairwise fun a b => ∃ x y f g, a = .leaf x f ∧ b = .leaf y g ∧ x < y

/-- R185: the padding is the document's formula, at most n - 2, and makes (m - 1) mod (n - 1) = 0. -/
def Obligations.PaddingMakesTheMergeExact : Prop :=
  ∀ k n : Nat, 2 ≤ k → 2 ≤ n →
    padCount k n = ((n - 1) - (k - 1) % (n - 1)) % (n - 1) ∧ (k + padCount k n - 1) % (n - 1) = 0 ∧
    padCount k n ≤ n - 2 ∧ (n = 2 → padCount k n = 0)

/-- R182: inserting a key of a new node into a queue in rising order keeps it in rising order and holds exactly the old keys and the new
one, so that its head is the smallest key. -/
def Obligations.QueueReleasesTheSmallestKey : Prop :=
  ∀ (k : PQKey) (q : List PQKey), q.Pairwise (fun a b => a.lt b = true) → (∀ x ∈ q, x.node ≠ k.node) →
    (pqInsert k q).Pairwise (fun a b => a.lt b = true) ∧ (pqInsert k q).Perm (k :: q)

/-- R187, R188: the merge of m nodes with (m - 1) mod (n - 1) = 0 stops with exactly one element, the last node made, after
(m - 1) / (n - 1) rounds, and keeps the m nodes it started with. -/
def Obligations.MergeStopsWithOneRoot : Prop :=
  ∀ (n : Nat) (nodes : List Node), 2 ≤ n → 2 ≤ nodes.length → (nodes.length - 1) % (n - 1) = 0 →
    (merge n nodes).nodes.length = nodes.length + (nodes.length - 1) / (n - 1) ∧
    (merge n nodes).nodes.take nodes.length = nodes ∧
    (merge n nodes).pq.map (·.node) = [(merge n nodes).nodes.length - 1]

/-- R183: the priority queue's tree is the tree of the document's algorithm with a stable sort, node for node, for every
leaf list and arity. -/
def Obligations.QueueTreeIsTheStableSortTree : Prop :=
  ∀ (n : Nat) (nodes : List Node), (merge n nodes).nodes = (sortMerge n nodes).nodes

/-- R189, R194: a single counted symbol gives one LEAF, no padding and no merge, at every legal arity, with code [0]. -/
def Obligations.SingleSymbolTreeIsOneLeaf : Prop :=
  ∀ (s : State) (x f : Nat), s.Inv → s.phase = .idle → 2 ≤ s.arity.toNat → s.arity.toNat ≤ s.params.nMax →
    s.kcount = 1 → f ≠ 0 → s.freqAt x = f →
    ∃ t, exec .build s = .next t ∧ t.phase = .built ∧ t.treeArity = s.arity ∧ t.nodes = [.leaf x f] ∧ t.root = 0 ∧
      t.nodeCount = 1 ∧ t.leafCount = 1 ∧ t.pad = 0 ∧ t.codes = [(x, [0])]

/-- R41, R184 to R195: from a state that meets the invariant a BUILD that passes its checks succeeds, and its tree, codes and registers
are those of R41 (`TreeOk`, `CodesOk`); FREQ, KCOUNT and TOTAL stay. No session is open, and CURSOR = ROOT (R44; that BUILD is
what writes it is assumption 23). -/
def Obligations.BuildMakesATreeOfTheCounts : Prop :=
  ∀ s : State, s.Inv → s.phase = .idle → 2 ≤ s.arity.toNat → s.arity.toNat ≤ s.params.nMax → s.kcount ≠ 0 →
    ∃ t, exec .build s = .next t ∧ t.lastCode = 0 ∧ t.phase = .built ∧ t.treeArity = s.arity ∧ t.freq = s.freq ∧
      t.kcount = s.kcount ∧ t.total = s.total ∧ t.TreeOk ∧ t.CodesOk ∧ t.decState = .idle ∧ t.cursor = t.root

/-! ### The code table (42_tree_builder.md R196, 43_code_lookup.md) -/

/-- R196(a): in phase BUILT a symbol has a code iff it was counted; in phase IDLE none has. -/
def Obligations.CodedSymbolsAreTheCountedOnes : Prop :=
  ∀ (s : State) (x : Nat), s.Inv →
    (s.phase = .built → ((s.codeAt x).isSome = true ↔ s.freqAt x ≠ 0)) ∧ (s.phase = .idle → s.codeAt x = none)

/-- R196(b): no code is a beginning of another symbol's code. -/
def Obligations.CodesArePrefixFree : Prop :=
  ∀ (s : State) (x y : Nat) (c d : List Digit), s.Inv → s.phase = .built → s.codeAt x = some c → s.codeAt y = some d →
    x ≠ y → ¬ c <+: d

/-- R196(c), (d): every digit of a code is below TREE_ARITY, and the code leads from the root to its own symbol's LEAF (in
the single-symbol tree the root is the leaf and the code is [0]). -/
def Obligations.CodesLeadToTheirLeaf : Prop :=
  ∀ (s : State) (x : Nat) (c : List Digit), s.Inv → s.phase = .built → s.codeAt x = some c →
    (∀ d ∈ c, d.toNat < s.treeArity.toNat) ∧
    (s.kcount ≠ 1 → walk s.nodes s.root.toNat c = some (.leaf x (s.freqAt x))) ∧
    (s.kcount = 1 → c = [0] ∧ s.nodes[s.root.toNat]? = some (.leaf x (s.freqAt x)))

/-- R11, R195: a code has 1 to CODE_MAX digits, so the table's storage never overflows; the tree has at most NODE_MAX nodes and
LEAF_MAX leaves. -/
def Obligations.CodeLengthIsBounded : Prop :=
  ∀ s : State, s.Inv → s.phase = .built →
    (∀ x c, s.codeAt x = some c → 1 ≤ c.length ∧ c.length ≤ s.params.codeMax) ∧
    s.leafCount.toNat ≤ s.params.leafMax ∧ s.nodes.length ≤ s.params.nodeMax

/-! ### Encoding and decoding texts (R232, R254, R255) -/

/-- R232: ENC_SYM symbol after symbol appends the concatenation of the codes, in input order. -/
def Obligations.EncodingATextConcatenatesItsCodes : Prop :=
  ∀ (s : State) (text : List Nat), s.Inv → s.phase = .built → text ≠ [] → (∀ x ∈ text, s.freqAt x ≠ 0) →
    s.out.length + (s.textDigits text).length ≤ s.params.outDepth →
    execAll (text.map .encSym) s =
      .next { s with out := s.out ++ (s.textDigits text).map OutEntry.ofDigit, lastCode := 0, lastSub := 0, busy := false }

/-- R255: the round trip. Decoding the digits that encode a text, in one session, succeeds and pushes exactly the text. -/
def Obligations.DecodingTheDigitsGivesTheTextBack : Prop :=
  ∀ (s : State) (text : List Nat), s.Inv → s.phase = .built → (∀ x ∈ text, s.freqAt x ≠ 0) →
    s.out.length + text.length ≤ s.params.outDepth →
    execAll (.decStart :: (s.textDigits text).map (fun d => .decDigit d.toNat) ++ [.decEnd]) s =
      .next { s with out := s.out ++ text.map OutEntry.ofSymbol, decState := .idle, cursor := s.root, lastCode := 0,
                     lastSub := 0, busy := false }

/-! ### The invariant -/

/-- The reset state meets the invariant. -/
def Obligations.ResetMeetsTheInvariant : Prop := State.reset.Inv

/-- R36, R37, R39 to R44, R48, R50: every step, of any agent, keeps the invariant. -/
def Obligations.EveryStepKeepsTheInvariant : Prop :=
  ∀ s t : State, s.Inv → step s = .next t → t.Inv

/-- R253: from a state that meets the invariant no step reads a node entry or child that holds no value; a step stops only
for an access that R81 does not admit. -/
def Obligations.NoStepFaultsUnderTheInvariant : Prop :=
  ∀ s : State, s.Inv →
    NoFault (step s) ∧ ∀ r, step s = .refused r → r = .accessNotAdmitted ∧
      ((∃ off size, s.nextTurn = .read off size ∧ admitted off size = false) ∨
        ∃ off size v, s.nextTurn = .write off size v ∧ admitted off size = false)
end

