-- ==== Sys2Proof/Laws/State.lean ====
section
/-! SUPPORT. Laws/State.lean: one lemma per field and named update, true by rfl, so that no proof unfolds a record update. -/

namespace Sys2Proof.Machine

/-! ### `complete` (R141) -/

@[simp] theorem State.complete_params (s : State) (c : BitVec 8) (d : BitVec 4) : (s.complete c d).params = s.params := rfl
@[simp] theorem State.complete_arity (s : State) (c : BitVec 8) (d : BitVec 4) : (s.complete c d).arity = s.arity := rfl
@[simp] theorem State.complete_phase (s : State) (c : BitVec 8) (d : BitVec 4) : (s.complete c d).phase = s.phase := rfl
@[simp] theorem State.complete_freq (s : State) (c : BitVec 8) (d : BitVec 4) : (s.complete c d).freq = s.freq := rfl
@[simp] theorem State.complete_kcount (s : State) (c : BitVec 8) (d : BitVec 4) : (s.complete c d).kcount = s.kcount := rfl
@[simp] theorem State.complete_total (s : State) (c : BitVec 8) (d : BitVec 4) : (s.complete c d).total = s.total := rfl
@[simp] theorem State.complete_treeArity (s : State) (c : BitVec 8) (d : BitVec 4) : (s.complete c d).treeArity = s.treeArity := rfl
@[simp] theorem State.complete_nodes (s : State) (c : BitVec 8) (d : BitVec 4) : (s.complete c d).nodes = s.nodes := rfl
@[simp] theorem State.complete_nodeCount (s : State) (c : BitVec 8) (d : BitVec 4) : (s.complete c d).nodeCount = s.nodeCount := rfl
@[simp] theorem State.complete_leafCount (s : State) (c : BitVec 8) (d : BitVec 4) : (s.complete c d).leafCount = s.leafCount := rfl
@[simp] theorem State.complete_pad (s : State) (c : BitVec 8) (d : BitVec 4) : (s.complete c d).pad = s.pad := rfl
@[simp] theorem State.complete_root (s : State) (c : BitVec 8) (d : BitVec 4) : (s.complete c d).root = s.root := rfl
@[simp] theorem State.complete_codes (s : State) (c : BitVec 8) (d : BitVec 4) : (s.complete c d).codes = s.codes := rfl
@[simp] theorem State.complete_pq (s : State) (c : BitVec 8) (d : BitVec 4) : (s.complete c d).pq = s.pq := rfl
@[simp] theorem State.complete_decState (s : State) (c : BitVec 8) (d : BitVec 4) : (s.complete c d).decState = s.decState := rfl
@[simp] theorem State.complete_cursor (s : State) (c : BitVec 8) (d : BitVec 4) : (s.complete c d).cursor = s.cursor := rfl
@[simp] theorem State.complete_busy (s : State) (c : BitVec 8) (d : BitVec 4) : (s.complete c d).busy = false := rfl
@[simp] theorem State.complete_cmdl (s : State) (c : BitVec 8) (d : BitVec 4) : (s.complete c d).cmdl = s.cmdl := rfl
@[simp] theorem State.complete_ovr (s : State) (c : BitVec 8) (d : BitVec 4) : (s.complete c d).ovr = s.ovr := rfl
@[simp] theorem State.complete_lastCode (s : State) (c : BitVec 8) (d : BitVec 4) : (s.complete c d).lastCode = c := rfl
@[simp] theorem State.complete_lastSub (s : State) (c : BitVec 8) (d : BitVec 4) : (s.complete c d).lastSub = d := rfl
@[simp] theorem State.complete_firstCode (s : State) (c : BitVec 8) (d : BitVec 4) : (s.complete c d).firstCode = if c ≠ 0 ∧ s.sticky = false then c else s.firstCode := rfl
@[simp] theorem State.complete_firstSub (s : State) (c : BitVec 8) (d : BitVec 4) : (s.complete c d).firstSub = if c ≠ 0 ∧ s.sticky = false then d else s.firstSub := rfl
@[simp] theorem State.complete_sticky (s : State) (c : BitVec 8) (d : BitVec 4) : (s.complete c d).sticky = (s.sticky || c != 0) := rfl
@[simp] theorem State.complete_res0 (s : State) (c : BitVec 8) (d : BitVec 4) : (s.complete c d).res0 = s.res0 := rfl
@[simp] theorem State.complete_res1 (s : State) (c : BitVec 8) (d : BitVec 4) : (s.complete c d).res1 = s.res1 := rfl
@[simp] theorem State.complete_out (s : State) (c : BitVec 8) (d : BitVec 4) : (s.complete c d).out = s.out := rfl
@[simp] theorem State.complete_turns (s : State) (c : BitVec 8) (d : BitVec 4) : (s.complete c d).turns = s.turns := rfl
@[simp] theorem State.complete_answers (s : State) (c : BitVec 8) (d : BitVec 4) : (s.complete c d).answers = s.answers := rfl
@[simp] theorem State.complete_draws (s : State) (c : BitVec 8) (d : BitVec 4) : (s.complete c d).draws = s.draws := rfl

/-! ### `raise` (R18) -/

@[simp] theorem State.raise_params (s : State) (e : CmdError) : (s.raise e).params = s.params := rfl
@[simp] theorem State.raise_arity (s : State) (e : CmdError) : (s.raise e).arity = s.arity := rfl
@[simp] theorem State.raise_phase (s : State) (e : CmdError) : (s.raise e).phase = s.phase := rfl
@[simp] theorem State.raise_freq (s : State) (e : CmdError) : (s.raise e).freq = s.freq := rfl
@[simp] theorem State.raise_kcount (s : State) (e : CmdError) : (s.raise e).kcount = s.kcount := rfl
@[simp] theorem State.raise_total (s : State) (e : CmdError) : (s.raise e).total = s.total := rfl
@[simp] theorem State.raise_treeArity (s : State) (e : CmdError) : (s.raise e).treeArity = s.treeArity := rfl
@[simp] theorem State.raise_nodes (s : State) (e : CmdError) : (s.raise e).nodes = s.nodes := rfl
@[simp] theorem State.raise_nodeCount (s : State) (e : CmdError) : (s.raise e).nodeCount = s.nodeCount := rfl
@[simp] theorem State.raise_leafCount (s : State) (e : CmdError) : (s.raise e).leafCount = s.leafCount := rfl
@[simp] theorem State.raise_pad (s : State) (e : CmdError) : (s.raise e).pad = s.pad := rfl
@[simp] theorem State.raise_root (s : State) (e : CmdError) : (s.raise e).root = s.root := rfl
@[simp] theorem State.raise_codes (s : State) (e : CmdError) : (s.raise e).codes = s.codes := rfl
@[simp] theorem State.raise_pq (s : State) (e : CmdError) : (s.raise e).pq = s.pq := rfl
@[simp] theorem State.raise_decState (s : State) (e : CmdError) : (s.raise e).decState = s.decState := rfl
@[simp] theorem State.raise_cursor (s : State) (e : CmdError) : (s.raise e).cursor = s.cursor := rfl
@[simp] theorem State.raise_busy (s : State) (e : CmdError) : (s.raise e).busy = false := rfl
@[simp] theorem State.raise_cmdl (s : State) (e : CmdError) : (s.raise e).cmdl = s.cmdl := rfl
@[simp] theorem State.raise_ovr (s : State) (e : CmdError) : (s.raise e).ovr = s.ovr := rfl
@[simp] theorem State.raise_lastCode (s : State) (e : CmdError) : (s.raise e).lastCode = e.code := rfl
@[simp] theorem State.raise_lastSub (s : State) (e : CmdError) : (s.raise e).lastSub = e.sub := rfl
@[simp] theorem State.raise_firstCode (s : State) (e : CmdError) : (s.raise e).firstCode = if e.code ≠ 0 ∧ s.sticky = false then e.code else s.firstCode := rfl
@[simp] theorem State.raise_firstSub (s : State) (e : CmdError) : (s.raise e).firstSub = if e.code ≠ 0 ∧ s.sticky = false then e.sub else s.firstSub := rfl
@[simp] theorem State.raise_sticky (s : State) (e : CmdError) : (s.raise e).sticky = (s.sticky || e.code != 0) := rfl
@[simp] theorem State.raise_res0 (s : State) (e : CmdError) : (s.raise e).res0 = s.res0 := rfl
@[simp] theorem State.raise_res1 (s : State) (e : CmdError) : (s.raise e).res1 = s.res1 := rfl
@[simp] theorem State.raise_out (s : State) (e : CmdError) : (s.raise e).out = s.out := rfl
@[simp] theorem State.raise_turns (s : State) (e : CmdError) : (s.raise e).turns = s.turns := rfl
@[simp] theorem State.raise_answers (s : State) (e : CmdError) : (s.raise e).answers = s.answers := rfl
@[simp] theorem State.raise_draws (s : State) (e : CmdError) : (s.raise e).draws = s.draws := rfl

/-! ### `complete_init` (R311) -/

@[simp] theorem State.completeInit_params (s : State) : s.completeInit.params = s.params := rfl
@[simp] theorem State.completeInit_arity (s : State) : s.completeInit.arity = s.arity := rfl
@[simp] theorem State.completeInit_phase (s : State) : s.completeInit.phase = s.phase := rfl
@[simp] theorem State.completeInit_freq (s : State) : s.completeInit.freq = s.freq := rfl
@[simp] theorem State.completeInit_kcount (s : State) : s.completeInit.kcount = s.kcount := rfl
@[simp] theorem State.completeInit_total (s : State) : s.completeInit.total = s.total := rfl
@[simp] theorem State.completeInit_treeArity (s : State) : s.completeInit.treeArity = s.treeArity := rfl
@[simp] theorem State.completeInit_nodes (s : State) : s.completeInit.nodes = s.nodes := rfl
@[simp] theorem State.completeInit_nodeCount (s : State) : s.completeInit.nodeCount = s.nodeCount := rfl
@[simp] theorem State.completeInit_leafCount (s : State) : s.completeInit.leafCount = s.leafCount := rfl
@[simp] theorem State.completeInit_pad (s : State) : s.completeInit.pad = s.pad := rfl
@[simp] theorem State.completeInit_root (s : State) : s.completeInit.root = s.root := rfl
@[simp] theorem State.completeInit_codes (s : State) : s.completeInit.codes = s.codes := rfl
@[simp] theorem State.completeInit_pq (s : State) : s.completeInit.pq = s.pq := rfl
@[simp] theorem State.completeInit_decState (s : State) : s.completeInit.decState = s.decState := rfl
@[simp] theorem State.completeInit_cursor (s : State) : s.completeInit.cursor = s.cursor := rfl
@[simp] theorem State.completeInit_busy (s : State) : s.completeInit.busy = false := rfl
@[simp] theorem State.completeInit_cmdl (s : State) : s.completeInit.cmdl = s.cmdl := rfl
@[simp] theorem State.completeInit_ovr (s : State) : s.completeInit.ovr = s.ovr := rfl
@[simp] theorem State.completeInit_lastCode (s : State) : s.completeInit.lastCode = s.lastCode := rfl
@[simp] theorem State.completeInit_lastSub (s : State) : s.completeInit.lastSub = s.lastSub := rfl
@[simp] theorem State.completeInit_firstCode (s : State) : s.completeInit.firstCode = s.firstCode := rfl
@[simp] theorem State.completeInit_firstSub (s : State) : s.completeInit.firstSub = s.firstSub := rfl
@[simp] theorem State.completeInit_sticky (s : State) : s.completeInit.sticky = s.sticky := rfl
@[simp] theorem State.completeInit_res0 (s : State) : s.completeInit.res0 = s.res0 := rfl
@[simp] theorem State.completeInit_res1 (s : State) : s.completeInit.res1 = s.res1 := rfl
@[simp] theorem State.completeInit_out (s : State) : s.completeInit.out = s.out := rfl
@[simp] theorem State.completeInit_turns (s : State) : s.completeInit.turns = s.turns := rfl
@[simp] theorem State.completeInit_answers (s : State) : s.completeInit.answers = s.answers := rfl
@[simp] theorem State.completeInit_draws (s : State) : s.completeInit.draws = s.draws := rfl

/-! ### an accepted CMD write (R86) -/

@[simp] theorem State.latch_params (s : State) (w : Word) : (s.latch w).params = s.params := rfl
@[simp] theorem State.latch_arity (s : State) (w : Word) : (s.latch w).arity = s.arity := rfl
@[simp] theorem State.latch_phase (s : State) (w : Word) : (s.latch w).phase = s.phase := rfl
@[simp] theorem State.latch_freq (s : State) (w : Word) : (s.latch w).freq = s.freq := rfl
@[simp] theorem State.latch_kcount (s : State) (w : Word) : (s.latch w).kcount = s.kcount := rfl
@[simp] theorem State.latch_total (s : State) (w : Word) : (s.latch w).total = s.total := rfl
@[simp] theorem State.latch_treeArity (s : State) (w : Word) : (s.latch w).treeArity = s.treeArity := rfl
@[simp] theorem State.latch_nodes (s : State) (w : Word) : (s.latch w).nodes = s.nodes := rfl
@[simp] theorem State.latch_nodeCount (s : State) (w : Word) : (s.latch w).nodeCount = s.nodeCount := rfl
@[simp] theorem State.latch_leafCount (s : State) (w : Word) : (s.latch w).leafCount = s.leafCount := rfl
@[simp] theorem State.latch_pad (s : State) (w : Word) : (s.latch w).pad = s.pad := rfl
@[simp] theorem State.latch_root (s : State) (w : Word) : (s.latch w).root = s.root := rfl
@[simp] theorem State.latch_codes (s : State) (w : Word) : (s.latch w).codes = s.codes := rfl
@[simp] theorem State.latch_pq (s : State) (w : Word) : (s.latch w).pq = s.pq := rfl
@[simp] theorem State.latch_decState (s : State) (w : Word) : (s.latch w).decState = s.decState := rfl
@[simp] theorem State.latch_cursor (s : State) (w : Word) : (s.latch w).cursor = s.cursor := rfl
@[simp] theorem State.latch_busy (s : State) (w : Word) : (s.latch w).busy = true := rfl
@[simp] theorem State.latch_cmdl (s : State) (w : Word) : (s.latch w).cmdl = .word w := rfl
@[simp] theorem State.latch_ovr (s : State) (w : Word) : (s.latch w).ovr = s.ovr := rfl
@[simp] theorem State.latch_lastCode (s : State) (w : Word) : (s.latch w).lastCode = s.lastCode := rfl
@[simp] theorem State.latch_lastSub (s : State) (w : Word) : (s.latch w).lastSub = s.lastSub := rfl
@[simp] theorem State.latch_firstCode (s : State) (w : Word) : (s.latch w).firstCode = s.firstCode := rfl
@[simp] theorem State.latch_firstSub (s : State) (w : Word) : (s.latch w).firstSub = s.firstSub := rfl
@[simp] theorem State.latch_sticky (s : State) (w : Word) : (s.latch w).sticky = s.sticky := rfl
@[simp] theorem State.latch_res0 (s : State) (w : Word) : (s.latch w).res0 = s.res0 := rfl
@[simp] theorem State.latch_res1 (s : State) (w : Word) : (s.latch w).res1 = s.res1 := rfl
@[simp] theorem State.latch_out (s : State) (w : Word) : (s.latch w).out = s.out := rfl
@[simp] theorem State.latch_turns (s : State) (w : Word) : (s.latch w).turns = s.turns := rfl
@[simp] theorem State.latch_answers (s : State) (w : Word) : (s.latch w).answers = s.answers := rfl
@[simp] theorem State.latch_draws (s : State) (w : Word) : (s.latch w).draws = s.draws := rfl

/-! ### a dropped CMD write (R86) -/

@[simp] theorem State.overrun_params (s : State) : s.overrun.params = s.params := rfl
@[simp] theorem State.overrun_arity (s : State) : s.overrun.arity = s.arity := rfl
@[simp] theorem State.overrun_phase (s : State) : s.overrun.phase = s.phase := rfl
@[simp] theorem State.overrun_freq (s : State) : s.overrun.freq = s.freq := rfl
@[simp] theorem State.overrun_kcount (s : State) : s.overrun.kcount = s.kcount := rfl
@[simp] theorem State.overrun_total (s : State) : s.overrun.total = s.total := rfl
@[simp] theorem State.overrun_treeArity (s : State) : s.overrun.treeArity = s.treeArity := rfl
@[simp] theorem State.overrun_nodes (s : State) : s.overrun.nodes = s.nodes := rfl
@[simp] theorem State.overrun_nodeCount (s : State) : s.overrun.nodeCount = s.nodeCount := rfl
@[simp] theorem State.overrun_leafCount (s : State) : s.overrun.leafCount = s.leafCount := rfl
@[simp] theorem State.overrun_pad (s : State) : s.overrun.pad = s.pad := rfl
@[simp] theorem State.overrun_root (s : State) : s.overrun.root = s.root := rfl
@[simp] theorem State.overrun_codes (s : State) : s.overrun.codes = s.codes := rfl
@[simp] theorem State.overrun_pq (s : State) : s.overrun.pq = s.pq := rfl
@[simp] theorem State.overrun_decState (s : State) : s.overrun.decState = s.decState := rfl
@[simp] theorem State.overrun_cursor (s : State) : s.overrun.cursor = s.cursor := rfl
@[simp] theorem State.overrun_busy (s : State) : s.overrun.busy = s.busy := rfl
@[simp] theorem State.overrun_cmdl (s : State) : s.overrun.cmdl = s.cmdl := rfl
@[simp] theorem State.overrun_ovr (s : State) : s.overrun.ovr = true := rfl
@[simp] theorem State.overrun_lastCode (s : State) : s.overrun.lastCode = s.lastCode := rfl
@[simp] theorem State.overrun_lastSub (s : State) : s.overrun.lastSub = s.lastSub := rfl
@[simp] theorem State.overrun_firstCode (s : State) : s.overrun.firstCode = s.firstCode := rfl
@[simp] theorem State.overrun_firstSub (s : State) : s.overrun.firstSub = s.firstSub := rfl
@[simp] theorem State.overrun_sticky (s : State) : s.overrun.sticky = s.sticky := rfl
@[simp] theorem State.overrun_res0 (s : State) : s.overrun.res0 = s.res0 := rfl
@[simp] theorem State.overrun_res1 (s : State) : s.overrun.res1 = s.res1 := rfl
@[simp] theorem State.overrun_out (s : State) : s.overrun.out = s.out := rfl
@[simp] theorem State.overrun_turns (s : State) : s.overrun.turns = s.turns := rfl
@[simp] theorem State.overrun_answers (s : State) : s.overrun.answers = s.answers := rfl
@[simp] theorem State.overrun_draws (s : State) : s.overrun.draws = s.draws := rfl

/-! ### a query's results (R49) -/

@[simp] theorem State.setRes_params (s : State) (a b : Word) : (s.setRes a b).params = s.params := rfl
@[simp] theorem State.setRes_arity (s : State) (a b : Word) : (s.setRes a b).arity = s.arity := rfl
@[simp] theorem State.setRes_phase (s : State) (a b : Word) : (s.setRes a b).phase = s.phase := rfl
@[simp] theorem State.setRes_freq (s : State) (a b : Word) : (s.setRes a b).freq = s.freq := rfl
@[simp] theorem State.setRes_kcount (s : State) (a b : Word) : (s.setRes a b).kcount = s.kcount := rfl
@[simp] theorem State.setRes_total (s : State) (a b : Word) : (s.setRes a b).total = s.total := rfl
@[simp] theorem State.setRes_treeArity (s : State) (a b : Word) : (s.setRes a b).treeArity = s.treeArity := rfl
@[simp] theorem State.setRes_nodes (s : State) (a b : Word) : (s.setRes a b).nodes = s.nodes := rfl
@[simp] theorem State.setRes_nodeCount (s : State) (a b : Word) : (s.setRes a b).nodeCount = s.nodeCount := rfl
@[simp] theorem State.setRes_leafCount (s : State) (a b : Word) : (s.setRes a b).leafCount = s.leafCount := rfl
@[simp] theorem State.setRes_pad (s : State) (a b : Word) : (s.setRes a b).pad = s.pad := rfl
@[simp] theorem State.setRes_root (s : State) (a b : Word) : (s.setRes a b).root = s.root := rfl
@[simp] theorem State.setRes_codes (s : State) (a b : Word) : (s.setRes a b).codes = s.codes := rfl
@[simp] theorem State.setRes_pq (s : State) (a b : Word) : (s.setRes a b).pq = s.pq := rfl
@[simp] theorem State.setRes_decState (s : State) (a b : Word) : (s.setRes a b).decState = s.decState := rfl
@[simp] theorem State.setRes_cursor (s : State) (a b : Word) : (s.setRes a b).cursor = s.cursor := rfl
@[simp] theorem State.setRes_busy (s : State) (a b : Word) : (s.setRes a b).busy = s.busy := rfl
@[simp] theorem State.setRes_cmdl (s : State) (a b : Word) : (s.setRes a b).cmdl = s.cmdl := rfl
@[simp] theorem State.setRes_ovr (s : State) (a b : Word) : (s.setRes a b).ovr = s.ovr := rfl
@[simp] theorem State.setRes_lastCode (s : State) (a b : Word) : (s.setRes a b).lastCode = s.lastCode := rfl
@[simp] theorem State.setRes_lastSub (s : State) (a b : Word) : (s.setRes a b).lastSub = s.lastSub := rfl
@[simp] theorem State.setRes_firstCode (s : State) (a b : Word) : (s.setRes a b).firstCode = s.firstCode := rfl
@[simp] theorem State.setRes_firstSub (s : State) (a b : Word) : (s.setRes a b).firstSub = s.firstSub := rfl
@[simp] theorem State.setRes_sticky (s : State) (a b : Word) : (s.setRes a b).sticky = s.sticky := rfl
@[simp] theorem State.setRes_res0 (s : State) (a b : Word) : (s.setRes a b).res0 = a := rfl
@[simp] theorem State.setRes_res1 (s : State) (a b : Word) : (s.setRes a b).res1 = b := rfl
@[simp] theorem State.setRes_out (s : State) (a b : Word) : (s.setRes a b).out = s.out := rfl
@[simp] theorem State.setRes_turns (s : State) (a b : Word) : (s.setRes a b).turns = s.turns := rfl
@[simp] theorem State.setRes_answers (s : State) (a b : Word) : (s.setRes a b).answers = s.answers := rfl
@[simp] theorem State.setRes_draws (s : State) (a b : Word) : (s.setRes a b).draws = s.draws := rfl

/-! ### `push` (R52) -/

@[simp] theorem State.push_params (s : State) (es : List OutEntry) : (s.push es).params = s.params := rfl
@[simp] theorem State.push_arity (s : State) (es : List OutEntry) : (s.push es).arity = s.arity := rfl
@[simp] theorem State.push_phase (s : State) (es : List OutEntry) : (s.push es).phase = s.phase := rfl
@[simp] theorem State.push_freq (s : State) (es : List OutEntry) : (s.push es).freq = s.freq := rfl
@[simp] theorem State.push_kcount (s : State) (es : List OutEntry) : (s.push es).kcount = s.kcount := rfl
@[simp] theorem State.push_total (s : State) (es : List OutEntry) : (s.push es).total = s.total := rfl
@[simp] theorem State.push_treeArity (s : State) (es : List OutEntry) : (s.push es).treeArity = s.treeArity := rfl
@[simp] theorem State.push_nodes (s : State) (es : List OutEntry) : (s.push es).nodes = s.nodes := rfl
@[simp] theorem State.push_nodeCount (s : State) (es : List OutEntry) : (s.push es).nodeCount = s.nodeCount := rfl
@[simp] theorem State.push_leafCount (s : State) (es : List OutEntry) : (s.push es).leafCount = s.leafCount := rfl
@[simp] theorem State.push_pad (s : State) (es : List OutEntry) : (s.push es).pad = s.pad := rfl
@[simp] theorem State.push_root (s : State) (es : List OutEntry) : (s.push es).root = s.root := rfl
@[simp] theorem State.push_codes (s : State) (es : List OutEntry) : (s.push es).codes = s.codes := rfl
@[simp] theorem State.push_pq (s : State) (es : List OutEntry) : (s.push es).pq = s.pq := rfl
@[simp] theorem State.push_decState (s : State) (es : List OutEntry) : (s.push es).decState = s.decState := rfl
@[simp] theorem State.push_cursor (s : State) (es : List OutEntry) : (s.push es).cursor = s.cursor := rfl
@[simp] theorem State.push_busy (s : State) (es : List OutEntry) : (s.push es).busy = s.busy := rfl
@[simp] theorem State.push_cmdl (s : State) (es : List OutEntry) : (s.push es).cmdl = s.cmdl := rfl
@[simp] theorem State.push_ovr (s : State) (es : List OutEntry) : (s.push es).ovr = s.ovr := rfl
@[simp] theorem State.push_lastCode (s : State) (es : List OutEntry) : (s.push es).lastCode = s.lastCode := rfl
@[simp] theorem State.push_lastSub (s : State) (es : List OutEntry) : (s.push es).lastSub = s.lastSub := rfl
@[simp] theorem State.push_firstCode (s : State) (es : List OutEntry) : (s.push es).firstCode = s.firstCode := rfl
@[simp] theorem State.push_firstSub (s : State) (es : List OutEntry) : (s.push es).firstSub = s.firstSub := rfl
@[simp] theorem State.push_sticky (s : State) (es : List OutEntry) : (s.push es).sticky = s.sticky := rfl
@[simp] theorem State.push_res0 (s : State) (es : List OutEntry) : (s.push es).res0 = s.res0 := rfl
@[simp] theorem State.push_res1 (s : State) (es : List OutEntry) : (s.push es).res1 = s.res1 := rfl
@[simp] theorem State.push_out (s : State) (es : List OutEntry) : (s.push es).out = s.out ++ es := rfl
@[simp] theorem State.push_turns (s : State) (es : List OutEntry) : (s.push es).turns = s.turns := rfl
@[simp] theorem State.push_answers (s : State) (es : List OutEntry) : (s.push es).answers = s.answers := rfl
@[simp] theorem State.push_draws (s : State) (es : List OutEntry) : (s.push es).draws = s.draws := rfl

/-! ### the pop of OUT_DATA (R88) -/

@[simp] theorem State.popOut_params (s : State) : s.popOut.params = s.params := rfl
@[simp] theorem State.popOut_arity (s : State) : s.popOut.arity = s.arity := rfl
@[simp] theorem State.popOut_phase (s : State) : s.popOut.phase = s.phase := rfl
@[simp] theorem State.popOut_freq (s : State) : s.popOut.freq = s.freq := rfl
@[simp] theorem State.popOut_kcount (s : State) : s.popOut.kcount = s.kcount := rfl
@[simp] theorem State.popOut_total (s : State) : s.popOut.total = s.total := rfl
@[simp] theorem State.popOut_treeArity (s : State) : s.popOut.treeArity = s.treeArity := rfl
@[simp] theorem State.popOut_nodes (s : State) : s.popOut.nodes = s.nodes := rfl
@[simp] theorem State.popOut_nodeCount (s : State) : s.popOut.nodeCount = s.nodeCount := rfl
@[simp] theorem State.popOut_leafCount (s : State) : s.popOut.leafCount = s.leafCount := rfl
@[simp] theorem State.popOut_pad (s : State) : s.popOut.pad = s.pad := rfl
@[simp] theorem State.popOut_root (s : State) : s.popOut.root = s.root := rfl
@[simp] theorem State.popOut_codes (s : State) : s.popOut.codes = s.codes := rfl
@[simp] theorem State.popOut_pq (s : State) : s.popOut.pq = s.pq := rfl
@[simp] theorem State.popOut_decState (s : State) : s.popOut.decState = s.decState := rfl
@[simp] theorem State.popOut_cursor (s : State) : s.popOut.cursor = s.cursor := rfl
@[simp] theorem State.popOut_busy (s : State) : s.popOut.busy = s.busy := rfl
@[simp] theorem State.popOut_cmdl (s : State) : s.popOut.cmdl = s.cmdl := rfl
@[simp] theorem State.popOut_ovr (s : State) : s.popOut.ovr = s.ovr := rfl
@[simp] theorem State.popOut_lastCode (s : State) : s.popOut.lastCode = s.lastCode := rfl
@[simp] theorem State.popOut_lastSub (s : State) : s.popOut.lastSub = s.lastSub := rfl
@[simp] theorem State.popOut_firstCode (s : State) : s.popOut.firstCode = s.firstCode := rfl
@[simp] theorem State.popOut_firstSub (s : State) : s.popOut.firstSub = s.firstSub := rfl
@[simp] theorem State.popOut_sticky (s : State) : s.popOut.sticky = s.sticky := rfl
@[simp] theorem State.popOut_res0 (s : State) : s.popOut.res0 = s.res0 := rfl
@[simp] theorem State.popOut_res1 (s : State) : s.popOut.res1 = s.res1 := rfl
@[simp] theorem State.popOut_out (s : State) : s.popOut.out = s.out.tail := rfl
@[simp] theorem State.popOut_turns (s : State) : s.popOut.turns = s.turns := rfl
@[simp] theorem State.popOut_answers (s : State) : s.popOut.answers = s.answers := rfl
@[simp] theorem State.popOut_draws (s : State) : s.popOut.draws = s.draws := rfl

/-! ### DEC_STATE and CURSOR (R44) -/

@[simp] theorem State.setDecoder_params (s : State) (d : DecState) (c : NodeIdx) : (s.setDecoder d c).params = s.params := rfl
@[simp] theorem State.setDecoder_arity (s : State) (d : DecState) (c : NodeIdx) : (s.setDecoder d c).arity = s.arity := rfl
@[simp] theorem State.setDecoder_phase (s : State) (d : DecState) (c : NodeIdx) : (s.setDecoder d c).phase = s.phase := rfl
@[simp] theorem State.setDecoder_freq (s : State) (d : DecState) (c : NodeIdx) : (s.setDecoder d c).freq = s.freq := rfl
@[simp] theorem State.setDecoder_kcount (s : State) (d : DecState) (c : NodeIdx) : (s.setDecoder d c).kcount = s.kcount := rfl
@[simp] theorem State.setDecoder_total (s : State) (d : DecState) (c : NodeIdx) : (s.setDecoder d c).total = s.total := rfl
@[simp] theorem State.setDecoder_treeArity (s : State) (d : DecState) (c : NodeIdx) : (s.setDecoder d c).treeArity = s.treeArity := rfl
@[simp] theorem State.setDecoder_nodes (s : State) (d : DecState) (c : NodeIdx) : (s.setDecoder d c).nodes = s.nodes := rfl
@[simp] theorem State.setDecoder_nodeCount (s : State) (d : DecState) (c : NodeIdx) : (s.setDecoder d c).nodeCount = s.nodeCount := rfl
@[simp] theorem State.setDecoder_leafCount (s : State) (d : DecState) (c : NodeIdx) : (s.setDecoder d c).leafCount = s.leafCount := rfl
@[simp] theorem State.setDecoder_pad (s : State) (d : DecState) (c : NodeIdx) : (s.setDecoder d c).pad = s.pad := rfl
@[simp] theorem State.setDecoder_root (s : State) (d : DecState) (c : NodeIdx) : (s.setDecoder d c).root = s.root := rfl
@[simp] theorem State.setDecoder_codes (s : State) (d : DecState) (c : NodeIdx) : (s.setDecoder d c).codes = s.codes := rfl
@[simp] theorem State.setDecoder_pq (s : State) (d : DecState) (c : NodeIdx) : (s.setDecoder d c).pq = s.pq := rfl
@[simp] theorem State.setDecoder_decState (s : State) (d : DecState) (c : NodeIdx) : (s.setDecoder d c).decState = d := rfl
@[simp] theorem State.setDecoder_cursor (s : State) (d : DecState) (c : NodeIdx) : (s.setDecoder d c).cursor = c := rfl
@[simp] theorem State.setDecoder_busy (s : State) (d : DecState) (c : NodeIdx) : (s.setDecoder d c).busy = s.busy := rfl
@[simp] theorem State.setDecoder_cmdl (s : State) (d : DecState) (c : NodeIdx) : (s.setDecoder d c).cmdl = s.cmdl := rfl
@[simp] theorem State.setDecoder_ovr (s : State) (d : DecState) (c : NodeIdx) : (s.setDecoder d c).ovr = s.ovr := rfl
@[simp] theorem State.setDecoder_lastCode (s : State) (d : DecState) (c : NodeIdx) : (s.setDecoder d c).lastCode = s.lastCode := rfl
@[simp] theorem State.setDecoder_lastSub (s : State) (d : DecState) (c : NodeIdx) : (s.setDecoder d c).lastSub = s.lastSub := rfl
@[simp] theorem State.setDecoder_firstCode (s : State) (d : DecState) (c : NodeIdx) : (s.setDecoder d c).firstCode = s.firstCode := rfl
@[simp] theorem State.setDecoder_firstSub (s : State) (d : DecState) (c : NodeIdx) : (s.setDecoder d c).firstSub = s.firstSub := rfl
@[simp] theorem State.setDecoder_sticky (s : State) (d : DecState) (c : NodeIdx) : (s.setDecoder d c).sticky = s.sticky := rfl
@[simp] theorem State.setDecoder_res0 (s : State) (d : DecState) (c : NodeIdx) : (s.setDecoder d c).res0 = s.res0 := rfl
@[simp] theorem State.setDecoder_res1 (s : State) (d : DecState) (c : NodeIdx) : (s.setDecoder d c).res1 = s.res1 := rfl
@[simp] theorem State.setDecoder_out (s : State) (d : DecState) (c : NodeIdx) : (s.setDecoder d c).out = s.out := rfl
@[simp] theorem State.setDecoder_turns (s : State) (d : DecState) (c : NodeIdx) : (s.setDecoder d c).turns = s.turns := rfl
@[simp] theorem State.setDecoder_answers (s : State) (d : DecState) (c : NodeIdx) : (s.setDecoder d c).answers = s.answers := rfl
@[simp] theorem State.setDecoder_draws (s : State) (d : DecState) (c : NodeIdx) : (s.setDecoder d c).draws = s.draws := rfl

/-! ### CLEAR (R145) -/

@[simp] theorem State.clear_params (s : State) : s.clear.params = s.params := rfl
@[simp] theorem State.clear_arity (s : State) : s.clear.arity = s.arity := rfl
@[simp] theorem State.clear_phase (s : State) : s.clear.phase = .idle := rfl
@[simp] theorem State.clear_freq (s : State) : s.clear.freq = [] := rfl
@[simp] theorem State.clear_kcount (s : State) : s.clear.kcount = 0 := rfl
@[simp] theorem State.clear_total (s : State) : s.clear.total = 0 := rfl
@[simp] theorem State.clear_treeArity (s : State) : s.clear.treeArity = 0 := rfl
@[simp] theorem State.clear_nodes (s : State) : s.clear.nodes = [] := rfl
@[simp] theorem State.clear_nodeCount (s : State) : s.clear.nodeCount = 0 := rfl
@[simp] theorem State.clear_leafCount (s : State) : s.clear.leafCount = 0 := rfl
@[simp] theorem State.clear_pad (s : State) : s.clear.pad = 0 := rfl
@[simp] theorem State.clear_root (s : State) : s.clear.root = 0 := rfl
@[simp] theorem State.clear_codes (s : State) : s.clear.codes = [] := rfl
@[simp] theorem State.clear_pq (s : State) : s.clear.pq = s.pq := rfl
@[simp] theorem State.clear_decState (s : State) : s.clear.decState = .idle := rfl
@[simp] theorem State.clear_cursor (s : State) : s.clear.cursor = 0 := rfl
@[simp] theorem State.clear_busy (s : State) : s.clear.busy = s.busy := rfl
@[simp] theorem State.clear_cmdl (s : State) : s.clear.cmdl = s.cmdl := rfl
@[simp] theorem State.clear_ovr (s : State) : s.clear.ovr = s.ovr := rfl
@[simp] theorem State.clear_lastCode (s : State) : s.clear.lastCode = s.lastCode := rfl
@[simp] theorem State.clear_lastSub (s : State) : s.clear.lastSub = s.lastSub := rfl
@[simp] theorem State.clear_firstCode (s : State) : s.clear.firstCode = 0 := rfl
@[simp] theorem State.clear_firstSub (s : State) : s.clear.firstSub = 0 := rfl
@[simp] theorem State.clear_sticky (s : State) : s.clear.sticky = false := rfl
@[simp] theorem State.clear_res0 (s : State) : s.clear.res0 = 0 := rfl
@[simp] theorem State.clear_res1 (s : State) : s.clear.res1 = 0 := rfl
@[simp] theorem State.clear_out (s : State) : s.clear.out = [] := rfl
@[simp] theorem State.clear_turns (s : State) : s.clear.turns = s.turns := rfl
@[simp] theorem State.clear_answers (s : State) : s.clear.answers = s.answers := rfl
@[simp] theorem State.clear_draws (s : State) : s.clear.draws = s.draws := rfl

/-! ### ERR_ACK (R146) -/

@[simp] theorem State.ackErrors_params (s : State) : s.ackErrors.params = s.params := rfl
@[simp] theorem State.ackErrors_arity (s : State) : s.ackErrors.arity = s.arity := rfl
@[simp] theorem State.ackErrors_phase (s : State) : s.ackErrors.phase = s.phase := rfl
@[simp] theorem State.ackErrors_freq (s : State) : s.ackErrors.freq = s.freq := rfl
@[simp] theorem State.ackErrors_kcount (s : State) : s.ackErrors.kcount = s.kcount := rfl
@[simp] theorem State.ackErrors_total (s : State) : s.ackErrors.total = s.total := rfl
@[simp] theorem State.ackErrors_treeArity (s : State) : s.ackErrors.treeArity = s.treeArity := rfl
@[simp] theorem State.ackErrors_nodes (s : State) : s.ackErrors.nodes = s.nodes := rfl
@[simp] theorem State.ackErrors_nodeCount (s : State) : s.ackErrors.nodeCount = s.nodeCount := rfl
@[simp] theorem State.ackErrors_leafCount (s : State) : s.ackErrors.leafCount = s.leafCount := rfl
@[simp] theorem State.ackErrors_pad (s : State) : s.ackErrors.pad = s.pad := rfl
@[simp] theorem State.ackErrors_root (s : State) : s.ackErrors.root = s.root := rfl
@[simp] theorem State.ackErrors_codes (s : State) : s.ackErrors.codes = s.codes := rfl
@[simp] theorem State.ackErrors_pq (s : State) : s.ackErrors.pq = s.pq := rfl
@[simp] theorem State.ackErrors_decState (s : State) : s.ackErrors.decState = s.decState := rfl
@[simp] theorem State.ackErrors_cursor (s : State) : s.ackErrors.cursor = s.cursor := rfl
@[simp] theorem State.ackErrors_busy (s : State) : s.ackErrors.busy = s.busy := rfl
@[simp] theorem State.ackErrors_cmdl (s : State) : s.ackErrors.cmdl = s.cmdl := rfl
@[simp] theorem State.ackErrors_ovr (s : State) : s.ackErrors.ovr = false := rfl
@[simp] theorem State.ackErrors_lastCode (s : State) : s.ackErrors.lastCode = s.lastCode := rfl
@[simp] theorem State.ackErrors_lastSub (s : State) : s.ackErrors.lastSub = s.lastSub := rfl
@[simp] theorem State.ackErrors_firstCode (s : State) : s.ackErrors.firstCode = 0 := rfl
@[simp] theorem State.ackErrors_firstSub (s : State) : s.ackErrors.firstSub = 0 := rfl
@[simp] theorem State.ackErrors_sticky (s : State) : s.ackErrors.sticky = false := rfl
@[simp] theorem State.ackErrors_res0 (s : State) : s.ackErrors.res0 = s.res0 := rfl
@[simp] theorem State.ackErrors_res1 (s : State) : s.ackErrors.res1 = s.res1 := rfl
@[simp] theorem State.ackErrors_out (s : State) : s.ackErrors.out = s.out := rfl
@[simp] theorem State.ackErrors_turns (s : State) : s.ackErrors.turns = s.turns := rfl
@[simp] theorem State.ackErrors_answers (s : State) : s.ackErrors.answers = s.answers := rfl
@[simp] theorem State.ackErrors_draws (s : State) : s.ackErrors.draws = s.draws := rfl

/-! ### COUNT (R160) -/

@[simp] theorem State.countSym_params (s : State) (x : Nat) : (s.countSym x).params = s.params := rfl
@[simp] theorem State.countSym_arity (s : State) (x : Nat) : (s.countSym x).arity = s.arity := rfl
@[simp] theorem State.countSym_phase (s : State) (x : Nat) : (s.countSym x).phase = s.phase := rfl
@[simp] theorem State.countSym_freq (s : State) (x : Nat) : (s.countSym x).freq = freqWrite s.freq x (s.freqAt x + 1) := rfl
@[simp] theorem State.countSym_kcount (s : State) (x : Nat) : (s.countSym x).kcount = if s.freqAt x = 0 then s.kcount + 1 else s.kcount := rfl
@[simp] theorem State.countSym_total (s : State) (x : Nat) : (s.countSym x).total = s.total + 1 := rfl
@[simp] theorem State.countSym_treeArity (s : State) (x : Nat) : (s.countSym x).treeArity = s.treeArity := rfl
@[simp] theorem State.countSym_nodes (s : State) (x : Nat) : (s.countSym x).nodes = s.nodes := rfl
@[simp] theorem State.countSym_nodeCount (s : State) (x : Nat) : (s.countSym x).nodeCount = s.nodeCount := rfl
@[simp] theorem State.countSym_leafCount (s : State) (x : Nat) : (s.countSym x).leafCount = s.leafCount := rfl
@[simp] theorem State.countSym_pad (s : State) (x : Nat) : (s.countSym x).pad = s.pad := rfl
@[simp] theorem State.countSym_root (s : State) (x : Nat) : (s.countSym x).root = s.root := rfl
@[simp] theorem State.countSym_codes (s : State) (x : Nat) : (s.countSym x).codes = s.codes := rfl
@[simp] theorem State.countSym_pq (s : State) (x : Nat) : (s.countSym x).pq = s.pq := rfl
@[simp] theorem State.countSym_decState (s : State) (x : Nat) : (s.countSym x).decState = s.decState := rfl
@[simp] theorem State.countSym_cursor (s : State) (x : Nat) : (s.countSym x).cursor = s.cursor := rfl
@[simp] theorem State.countSym_busy (s : State) (x : Nat) : (s.countSym x).busy = s.busy := rfl
@[simp] theorem State.countSym_cmdl (s : State) (x : Nat) : (s.countSym x).cmdl = s.cmdl := rfl
@[simp] theorem State.countSym_ovr (s : State) (x : Nat) : (s.countSym x).ovr = s.ovr := rfl
@[simp] theorem State.countSym_lastCode (s : State) (x : Nat) : (s.countSym x).lastCode = s.lastCode := rfl
@[simp] theorem State.countSym_lastSub (s : State) (x : Nat) : (s.countSym x).lastSub = s.lastSub := rfl
@[simp] theorem State.countSym_firstCode (s : State) (x : Nat) : (s.countSym x).firstCode = s.firstCode := rfl
@[simp] theorem State.countSym_firstSub (s : State) (x : Nat) : (s.countSym x).firstSub = s.firstSub := rfl
@[simp] theorem State.countSym_sticky (s : State) (x : Nat) : (s.countSym x).sticky = s.sticky := rfl
@[simp] theorem State.countSym_res0 (s : State) (x : Nat) : (s.countSym x).res0 = s.res0 := rfl
@[simp] theorem State.countSym_res1 (s : State) (x : Nat) : (s.countSym x).res1 = s.res1 := rfl
@[simp] theorem State.countSym_out (s : State) (x : Nat) : (s.countSym x).out = s.out := rfl
@[simp] theorem State.countSym_turns (s : State) (x : Nat) : (s.countSym x).turns = s.turns := rfl
@[simp] theorem State.countSym_answers (s : State) (x : Nat) : (s.countSym x).answers = s.answers := rfl
@[simp] theorem State.countSym_draws (s : State) (x : Nat) : (s.countSym x).draws = s.draws := rfl

/-! ### SET_ARITY (R180) -/

@[simp] theorem State.setArity_params (s : State) (n : Nat) : (s.setArity n).params = s.params := rfl
@[simp] theorem State.setArity_arity (s : State) (n : Nat) : (s.setArity n).arity = BitVec.ofNat 8 n := rfl
@[simp] theorem State.setArity_phase (s : State) (n : Nat) : (s.setArity n).phase = s.phase := rfl
@[simp] theorem State.setArity_freq (s : State) (n : Nat) : (s.setArity n).freq = s.freq := rfl
@[simp] theorem State.setArity_kcount (s : State) (n : Nat) : (s.setArity n).kcount = s.kcount := rfl
@[simp] theorem State.setArity_total (s : State) (n : Nat) : (s.setArity n).total = s.total := rfl
@[simp] theorem State.setArity_treeArity (s : State) (n : Nat) : (s.setArity n).treeArity = s.treeArity := rfl
@[simp] theorem State.setArity_nodes (s : State) (n : Nat) : (s.setArity n).nodes = s.nodes := rfl
@[simp] theorem State.setArity_nodeCount (s : State) (n : Nat) : (s.setArity n).nodeCount = s.nodeCount := rfl
@[simp] theorem State.setArity_leafCount (s : State) (n : Nat) : (s.setArity n).leafCount = s.leafCount := rfl
@[simp] theorem State.setArity_pad (s : State) (n : Nat) : (s.setArity n).pad = s.pad := rfl
@[simp] theorem State.setArity_root (s : State) (n : Nat) : (s.setArity n).root = s.root := rfl
@[simp] theorem State.setArity_codes (s : State) (n : Nat) : (s.setArity n).codes = s.codes := rfl
@[simp] theorem State.setArity_pq (s : State) (n : Nat) : (s.setArity n).pq = s.pq := rfl
@[simp] theorem State.setArity_decState (s : State) (n : Nat) : (s.setArity n).decState = s.decState := rfl
@[simp] theorem State.setArity_cursor (s : State) (n : Nat) : (s.setArity n).cursor = s.cursor := rfl
@[simp] theorem State.setArity_busy (s : State) (n : Nat) : (s.setArity n).busy = s.busy := rfl
@[simp] theorem State.setArity_cmdl (s : State) (n : Nat) : (s.setArity n).cmdl = s.cmdl := rfl
@[simp] theorem State.setArity_ovr (s : State) (n : Nat) : (s.setArity n).ovr = s.ovr := rfl
@[simp] theorem State.setArity_lastCode (s : State) (n : Nat) : (s.setArity n).lastCode = s.lastCode := rfl
@[simp] theorem State.setArity_lastSub (s : State) (n : Nat) : (s.setArity n).lastSub = s.lastSub := rfl
@[simp] theorem State.setArity_firstCode (s : State) (n : Nat) : (s.setArity n).firstCode = s.firstCode := rfl
@[simp] theorem State.setArity_firstSub (s : State) (n : Nat) : (s.setArity n).firstSub = s.firstSub := rfl
@[simp] theorem State.setArity_sticky (s : State) (n : Nat) : (s.setArity n).sticky = s.sticky := rfl
@[simp] theorem State.setArity_res0 (s : State) (n : Nat) : (s.setArity n).res0 = s.res0 := rfl
@[simp] theorem State.setArity_res1 (s : State) (n : Nat) : (s.setArity n).res1 = s.res1 := rfl
@[simp] theorem State.setArity_out (s : State) (n : Nat) : (s.setArity n).out = s.out := rfl
@[simp] theorem State.setArity_turns (s : State) (n : Nat) : (s.setArity n).turns = s.turns := rfl
@[simp] theorem State.setArity_answers (s : State) (n : Nat) : (s.setArity n).answers = s.answers := rfl
@[simp] theorem State.setArity_draws (s : State) (n : Nat) : (s.setArity n).draws = s.draws := rfl

/-! ### `commit` (R191) -/

@[simp] theorem State.commit_params (s : State) (b : Built) : (s.commit b).params = s.params := rfl
@[simp] theorem State.commit_arity (s : State) (b : Built) : (s.commit b).arity = s.arity := rfl
@[simp] theorem State.commit_phase (s : State) (b : Built) : (s.commit b).phase = .built := rfl
@[simp] theorem State.commit_freq (s : State) (b : Built) : (s.commit b).freq = s.freq := rfl
@[simp] theorem State.commit_kcount (s : State) (b : Built) : (s.commit b).kcount = s.kcount := rfl
@[simp] theorem State.commit_total (s : State) (b : Built) : (s.commit b).total = s.total := rfl
@[simp] theorem State.commit_treeArity (s : State) (b : Built) : (s.commit b).treeArity = s.arity := rfl
@[simp] theorem State.commit_nodes (s : State) (b : Built) : (s.commit b).nodes = b.nodes := rfl
@[simp] theorem State.commit_nodeCount (s : State) (b : Built) : (s.commit b).nodeCount = BitVec.ofNat 18 b.nodes.length := rfl
@[simp] theorem State.commit_leafCount (s : State) (b : Built) : (s.commit b).leafCount = BitVec.ofNat 17 b.leafCount := rfl
@[simp] theorem State.commit_pad (s : State) (b : Built) : (s.commit b).pad = BitVec.ofNat 8 b.pad := rfl
@[simp] theorem State.commit_root (s : State) (b : Built) : (s.commit b).root = BitVec.ofNat 18 b.root := rfl
@[simp] theorem State.commit_codes (s : State) (b : Built) : (s.commit b).codes = generateCodes b.nodes b.root s.codes := rfl
@[simp] theorem State.commit_pq (s : State) (b : Built) : (s.commit b).pq = b.pq := rfl
@[simp] theorem State.commit_decState (s : State) (b : Built) : (s.commit b).decState = s.decState := rfl
@[simp] theorem State.commit_cursor (s : State) (b : Built) : (s.commit b).cursor = BitVec.ofNat 18 b.root := rfl
@[simp] theorem State.commit_busy (s : State) (b : Built) : (s.commit b).busy = s.busy := rfl
@[simp] theorem State.commit_cmdl (s : State) (b : Built) : (s.commit b).cmdl = s.cmdl := rfl
@[simp] theorem State.commit_ovr (s : State) (b : Built) : (s.commit b).ovr = s.ovr := rfl
@[simp] theorem State.commit_lastCode (s : State) (b : Built) : (s.commit b).lastCode = s.lastCode := rfl
@[simp] theorem State.commit_lastSub (s : State) (b : Built) : (s.commit b).lastSub = s.lastSub := rfl
@[simp] theorem State.commit_firstCode (s : State) (b : Built) : (s.commit b).firstCode = s.firstCode := rfl
@[simp] theorem State.commit_firstSub (s : State) (b : Built) : (s.commit b).firstSub = s.firstSub := rfl
@[simp] theorem State.commit_sticky (s : State) (b : Built) : (s.commit b).sticky = s.sticky := rfl
@[simp] theorem State.commit_res0 (s : State) (b : Built) : (s.commit b).res0 = s.res0 := rfl
@[simp] theorem State.commit_res1 (s : State) (b : Built) : (s.commit b).res1 = s.res1 := rfl
@[simp] theorem State.commit_out (s : State) (b : Built) : (s.commit b).out = s.out := rfl
@[simp] theorem State.commit_turns (s : State) (b : Built) : (s.commit b).turns = s.turns := rfl
@[simp] theorem State.commit_answers (s : State) (b : Built) : (s.commit b).answers = s.answers := rfl
@[simp] theorem State.commit_draws (s : State) (b : Built) : (s.commit b).draws = s.draws := rfl

/-! ### an unspecified read (R84) -/

@[simp] theorem State.drawn_params (s : State) : s.drawn.params = s.params := rfl
@[simp] theorem State.drawn_arity (s : State) : s.drawn.arity = s.arity := rfl
@[simp] theorem State.drawn_phase (s : State) : s.drawn.phase = s.phase := rfl
@[simp] theorem State.drawn_freq (s : State) : s.drawn.freq = s.freq := rfl
@[simp] theorem State.drawn_kcount (s : State) : s.drawn.kcount = s.kcount := rfl
@[simp] theorem State.drawn_total (s : State) : s.drawn.total = s.total := rfl
@[simp] theorem State.drawn_treeArity (s : State) : s.drawn.treeArity = s.treeArity := rfl
@[simp] theorem State.drawn_nodes (s : State) : s.drawn.nodes = s.nodes := rfl
@[simp] theorem State.drawn_nodeCount (s : State) : s.drawn.nodeCount = s.nodeCount := rfl
@[simp] theorem State.drawn_leafCount (s : State) : s.drawn.leafCount = s.leafCount := rfl
@[simp] theorem State.drawn_pad (s : State) : s.drawn.pad = s.pad := rfl
@[simp] theorem State.drawn_root (s : State) : s.drawn.root = s.root := rfl
@[simp] theorem State.drawn_codes (s : State) : s.drawn.codes = s.codes := rfl
@[simp] theorem State.drawn_pq (s : State) : s.drawn.pq = s.pq := rfl
@[simp] theorem State.drawn_decState (s : State) : s.drawn.decState = s.decState := rfl
@[simp] theorem State.drawn_cursor (s : State) : s.drawn.cursor = s.cursor := rfl
@[simp] theorem State.drawn_busy (s : State) : s.drawn.busy = s.busy := rfl
@[simp] theorem State.drawn_cmdl (s : State) : s.drawn.cmdl = s.cmdl := rfl
@[simp] theorem State.drawn_ovr (s : State) : s.drawn.ovr = s.ovr := rfl
@[simp] theorem State.drawn_lastCode (s : State) : s.drawn.lastCode = s.lastCode := rfl
@[simp] theorem State.drawn_lastSub (s : State) : s.drawn.lastSub = s.lastSub := rfl
@[simp] theorem State.drawn_firstCode (s : State) : s.drawn.firstCode = s.firstCode := rfl
@[simp] theorem State.drawn_firstSub (s : State) : s.drawn.firstSub = s.firstSub := rfl
@[simp] theorem State.drawn_sticky (s : State) : s.drawn.sticky = s.sticky := rfl
@[simp] theorem State.drawn_res0 (s : State) : s.drawn.res0 = s.res0 := rfl
@[simp] theorem State.drawn_res1 (s : State) : s.drawn.res1 = s.res1 := rfl
@[simp] theorem State.drawn_out (s : State) : s.drawn.out = s.out := rfl
@[simp] theorem State.drawn_turns (s : State) : s.drawn.turns = s.turns := rfl
@[simp] theorem State.drawn_answers (s : State) : s.drawn.answers = s.answers := rfl
@[simp] theorem State.drawn_draws (s : State) : s.drawn.draws = s.draws + 1 := rfl

/-! ### the record of a host read -/

@[simp] theorem State.answer_params (s : State) (w : Word) : (s.answer w).params = s.params := rfl
@[simp] theorem State.answer_arity (s : State) (w : Word) : (s.answer w).arity = s.arity := rfl
@[simp] theorem State.answer_phase (s : State) (w : Word) : (s.answer w).phase = s.phase := rfl
@[simp] theorem State.answer_freq (s : State) (w : Word) : (s.answer w).freq = s.freq := rfl
@[simp] theorem State.answer_kcount (s : State) (w : Word) : (s.answer w).kcount = s.kcount := rfl
@[simp] theorem State.answer_total (s : State) (w : Word) : (s.answer w).total = s.total := rfl
@[simp] theorem State.answer_treeArity (s : State) (w : Word) : (s.answer w).treeArity = s.treeArity := rfl
@[simp] theorem State.answer_nodes (s : State) (w : Word) : (s.answer w).nodes = s.nodes := rfl
@[simp] theorem State.answer_nodeCount (s : State) (w : Word) : (s.answer w).nodeCount = s.nodeCount := rfl
@[simp] theorem State.answer_leafCount (s : State) (w : Word) : (s.answer w).leafCount = s.leafCount := rfl
@[simp] theorem State.answer_pad (s : State) (w : Word) : (s.answer w).pad = s.pad := rfl
@[simp] theorem State.answer_root (s : State) (w : Word) : (s.answer w).root = s.root := rfl
@[simp] theorem State.answer_codes (s : State) (w : Word) : (s.answer w).codes = s.codes := rfl
@[simp] theorem State.answer_pq (s : State) (w : Word) : (s.answer w).pq = s.pq := rfl
@[simp] theorem State.answer_decState (s : State) (w : Word) : (s.answer w).decState = s.decState := rfl
@[simp] theorem State.answer_cursor (s : State) (w : Word) : (s.answer w).cursor = s.cursor := rfl
@[simp] theorem State.answer_busy (s : State) (w : Word) : (s.answer w).busy = s.busy := rfl
@[simp] theorem State.answer_cmdl (s : State) (w : Word) : (s.answer w).cmdl = s.cmdl := rfl
@[simp] theorem State.answer_ovr (s : State) (w : Word) : (s.answer w).ovr = s.ovr := rfl
@[simp] theorem State.answer_lastCode (s : State) (w : Word) : (s.answer w).lastCode = s.lastCode := rfl
@[simp] theorem State.answer_lastSub (s : State) (w : Word) : (s.answer w).lastSub = s.lastSub := rfl
@[simp] theorem State.answer_firstCode (s : State) (w : Word) : (s.answer w).firstCode = s.firstCode := rfl
@[simp] theorem State.answer_firstSub (s : State) (w : Word) : (s.answer w).firstSub = s.firstSub := rfl
@[simp] theorem State.answer_sticky (s : State) (w : Word) : (s.answer w).sticky = s.sticky := rfl
@[simp] theorem State.answer_res0 (s : State) (w : Word) : (s.answer w).res0 = s.res0 := rfl
@[simp] theorem State.answer_res1 (s : State) (w : Word) : (s.answer w).res1 = s.res1 := rfl
@[simp] theorem State.answer_out (s : State) (w : Word) : (s.answer w).out = s.out := rfl
@[simp] theorem State.answer_turns (s : State) (w : Word) : (s.answer w).turns = s.turns := rfl
@[simp] theorem State.answer_answers (s : State) (w : Word) : (s.answer w).answers = s.answers ++ [w] := rfl
@[simp] theorem State.answer_draws (s : State) (w : Word) : (s.answer w).draws = s.draws := rfl

/-! ### a bus access delivered (R93) -/

@[simp] theorem State.deliver_params (s : State) (a : BusAccess) : (s.deliver a).params = s.params := rfl
@[simp] theorem State.deliver_arity (s : State) (a : BusAccess) : (s.deliver a).arity = s.arity := rfl
@[simp] theorem State.deliver_phase (s : State) (a : BusAccess) : (s.deliver a).phase = s.phase := rfl
@[simp] theorem State.deliver_freq (s : State) (a : BusAccess) : (s.deliver a).freq = s.freq := rfl
@[simp] theorem State.deliver_kcount (s : State) (a : BusAccess) : (s.deliver a).kcount = s.kcount := rfl
@[simp] theorem State.deliver_total (s : State) (a : BusAccess) : (s.deliver a).total = s.total := rfl
@[simp] theorem State.deliver_treeArity (s : State) (a : BusAccess) : (s.deliver a).treeArity = s.treeArity := rfl
@[simp] theorem State.deliver_nodes (s : State) (a : BusAccess) : (s.deliver a).nodes = s.nodes := rfl
@[simp] theorem State.deliver_nodeCount (s : State) (a : BusAccess) : (s.deliver a).nodeCount = s.nodeCount := rfl
@[simp] theorem State.deliver_leafCount (s : State) (a : BusAccess) : (s.deliver a).leafCount = s.leafCount := rfl
@[simp] theorem State.deliver_pad (s : State) (a : BusAccess) : (s.deliver a).pad = s.pad := rfl
@[simp] theorem State.deliver_root (s : State) (a : BusAccess) : (s.deliver a).root = s.root := rfl
@[simp] theorem State.deliver_codes (s : State) (a : BusAccess) : (s.deliver a).codes = s.codes := rfl
@[simp] theorem State.deliver_pq (s : State) (a : BusAccess) : (s.deliver a).pq = s.pq := rfl
@[simp] theorem State.deliver_decState (s : State) (a : BusAccess) : (s.deliver a).decState = s.decState := rfl
@[simp] theorem State.deliver_cursor (s : State) (a : BusAccess) : (s.deliver a).cursor = s.cursor := rfl
@[simp] theorem State.deliver_busy (s : State) (a : BusAccess) : (s.deliver a).busy = s.busy := rfl
@[simp] theorem State.deliver_cmdl (s : State) (a : BusAccess) : (s.deliver a).cmdl = s.cmdl := rfl
@[simp] theorem State.deliver_ovr (s : State) (a : BusAccess) : (s.deliver a).ovr = s.ovr := rfl
@[simp] theorem State.deliver_lastCode (s : State) (a : BusAccess) : (s.deliver a).lastCode = s.lastCode := rfl
@[simp] theorem State.deliver_lastSub (s : State) (a : BusAccess) : (s.deliver a).lastSub = s.lastSub := rfl
@[simp] theorem State.deliver_firstCode (s : State) (a : BusAccess) : (s.deliver a).firstCode = s.firstCode := rfl
@[simp] theorem State.deliver_firstSub (s : State) (a : BusAccess) : (s.deliver a).firstSub = s.firstSub := rfl
@[simp] theorem State.deliver_sticky (s : State) (a : BusAccess) : (s.deliver a).sticky = s.sticky := rfl
@[simp] theorem State.deliver_res0 (s : State) (a : BusAccess) : (s.deliver a).res0 = s.res0 := rfl
@[simp] theorem State.deliver_res1 (s : State) (a : BusAccess) : (s.deliver a).res1 = s.res1 := rfl
@[simp] theorem State.deliver_out (s : State) (a : BusAccess) : (s.deliver a).out = s.out := rfl
@[simp] theorem State.deliver_turns (s : State) (a : BusAccess) : (s.deliver a).turns = s.turns ++ (a.turn s.params).toList := rfl
@[simp] theorem State.deliver_answers (s : State) (a : BusAccess) : (s.deliver a).answers = s.answers := rfl
@[simp] theorem State.deliver_draws (s : State) (a : BusAccess) : (s.deliver a).draws = s.draws := rfl

/-! ### the turn used up -/

@[simp] theorem State.dropTurn_params (s : State) : s.dropTurn.params = s.params := rfl
@[simp] theorem State.dropTurn_arity (s : State) : s.dropTurn.arity = s.arity := rfl
@[simp] theorem State.dropTurn_phase (s : State) : s.dropTurn.phase = s.phase := rfl
@[simp] theorem State.dropTurn_freq (s : State) : s.dropTurn.freq = s.freq := rfl
@[simp] theorem State.dropTurn_kcount (s : State) : s.dropTurn.kcount = s.kcount := rfl
@[simp] theorem State.dropTurn_total (s : State) : s.dropTurn.total = s.total := rfl
@[simp] theorem State.dropTurn_treeArity (s : State) : s.dropTurn.treeArity = s.treeArity := rfl
@[simp] theorem State.dropTurn_nodes (s : State) : s.dropTurn.nodes = s.nodes := rfl
@[simp] theorem State.dropTurn_nodeCount (s : State) : s.dropTurn.nodeCount = s.nodeCount := rfl
@[simp] theorem State.dropTurn_leafCount (s : State) : s.dropTurn.leafCount = s.leafCount := rfl
@[simp] theorem State.dropTurn_pad (s : State) : s.dropTurn.pad = s.pad := rfl
@[simp] theorem State.dropTurn_root (s : State) : s.dropTurn.root = s.root := rfl
@[simp] theorem State.dropTurn_codes (s : State) : s.dropTurn.codes = s.codes := rfl
@[simp] theorem State.dropTurn_pq (s : State) : s.dropTurn.pq = s.pq := rfl
@[simp] theorem State.dropTurn_decState (s : State) : s.dropTurn.decState = s.decState := rfl
@[simp] theorem State.dropTurn_cursor (s : State) : s.dropTurn.cursor = s.cursor := rfl
@[simp] theorem State.dropTurn_busy (s : State) : s.dropTurn.busy = s.busy := rfl
@[simp] theorem State.dropTurn_cmdl (s : State) : s.dropTurn.cmdl = s.cmdl := rfl
@[simp] theorem State.dropTurn_ovr (s : State) : s.dropTurn.ovr = s.ovr := rfl
@[simp] theorem State.dropTurn_lastCode (s : State) : s.dropTurn.lastCode = s.lastCode := rfl
@[simp] theorem State.dropTurn_lastSub (s : State) : s.dropTurn.lastSub = s.lastSub := rfl
@[simp] theorem State.dropTurn_firstCode (s : State) : s.dropTurn.firstCode = s.firstCode := rfl
@[simp] theorem State.dropTurn_firstSub (s : State) : s.dropTurn.firstSub = s.firstSub := rfl
@[simp] theorem State.dropTurn_sticky (s : State) : s.dropTurn.sticky = s.sticky := rfl
@[simp] theorem State.dropTurn_res0 (s : State) : s.dropTurn.res0 = s.res0 := rfl
@[simp] theorem State.dropTurn_res1 (s : State) : s.dropTurn.res1 = s.res1 := rfl
@[simp] theorem State.dropTurn_out (s : State) : s.dropTurn.out = s.out := rfl
@[simp] theorem State.dropTurn_turns (s : State) : s.dropTurn.turns = s.turns.tail := rfl
@[simp] theorem State.dropTurn_answers (s : State) : s.dropTurn.answers = s.answers := rfl
@[simp] theorem State.dropTurn_draws (s : State) : s.dropTurn.draws = s.draws := rfl

end Sys2Proof.Machine
end

