-- ==== Sys2Proof/Laws/Ops.lean ====
section
/-! SUPPORT. Laws/Ops.lean: what the shared operations can do, said once: how a command ends, the shared lookups, the
engine's and the host's turns. -/

namespace Sys2Proof.Machine

/-! ### How a command ends -/

@[simp] theorem finish_done (s t : State) : finish s (.done t) = .next (t.complete 0 0) := rfl

@[simp] theorem finish_raise (s t : State) (e : CmdError) : finish s (.raise t e) = .next (t.complete e.code e.sub) := rfl

@[simp] theorem finish_wait (s : State) : finish s .wait = .next s := rfl

@[simp] theorem finish_noValue (s : State) (f : Fault) : finish s (.noValue f) = .fault f := rfl

/-- Inversion of `finish`: a next state is a completion with OK, a completion with an error, or the held state. -/
theorem finish_next {s t : State} {b : Body} (h : finish s b = .next t) :
    (∃ u, b = .done u ∧ t = u.complete 0 0) ∨ (∃ u e, b = .raise u e ∧ t = u.complete e.code e.sub) ∨
      (b = .wait ∧ t = s) := by
  cases b with
  | done u => exact .inl ⟨u, rfl, by simpa using h.symm⟩
  | raise u e => exact .inr (.inl ⟨u, e, rfl, by simpa using h.symm⟩)
  | wait => exact .inr (.inr ⟨rfl, by simpa using h.symm⟩)
  | noValue f => simp at h

/-- `finish` never refuses. -/
theorem finish_not_refused (s : State) (b : Body) (r : Refusal) : finish s b ≠ .refused r := by cases b <;> simp

/-- No error has code 0 (R280). -/
theorem CmdError.code_ne_zero (e : CmdError) : e.code ≠ 0 := by cases e <;> decide

/-- Completing with OK leaves FIRST and STICKY alone (R141). -/
theorem State.complete_ok (s : State) : s.complete 0 0 = { s with lastCode := 0, lastSub := 0, busy := false } := by
  simp [State.complete]

/-- `exec` is the command's pseudocode followed by its end (R140). -/
theorem exec_eq_finish (i : Instr) (s : State) : exec i s = finish s (commandBody i s) := by cases i <;> rfl

/-- Inversion of `exec`. -/
theorem exec_next {i : Instr} {s t : State} (h : exec i s = .next t) :
    (∃ u, commandBody i s = .done u ∧ t = u.complete 0 0) ∨
      (∃ u e, commandBody i s = .raise u e ∧ t = u.complete e.code e.sub) ∨ (commandBody i s = .wait ∧ t = s) :=
  finish_next (exec_eq_finish i s ▸ h)

/-! ### The shared lookups -/

/-- Everything `withCode` can do (R230, R231). -/
theorem withCode_cases (s : State) (sym : Nat) (use : List Digit → Body) :
    (s.phase ≠ .built ∧ withCode s sym use = .raise s .sequenceNeedsBuilt) ∨
      (s.phase = .built ∧ s.params.symCount ≤ sym ∧ withCode s sym use = .raise s .unknownSymbolRange) ∨
      (s.phase = .built ∧ sym < s.params.symCount ∧ s.codeAt sym = none ∧
        withCode s sym use = .raise s .unknownSymbolUncounted) ∨
      (∃ code, s.phase = .built ∧ sym < s.params.symCount ∧ s.codeAt sym = some code ∧ withCode s sym use = use code) := by
  by_cases hp : s.phase = .built
  · by_cases hs : sym < s.params.symCount
    · cases hc : s.codeAt sym <;> simp [withCode, State.symInRange, hp, hs, hc]
    · simp [withCode, State.symInRange, hp, hs, Nat.not_lt.mp hs]
  · simp [withCode, hp]

/-- Everything `withNode` can do (R200, R201). -/
theorem withNode_cases (s : State) (node : Nat) (use : Node → Body) :
    (s.phase ≠ .built ∧ withNode s node use = .raise s .sequenceNeedsBuilt) ∨
      (s.phase = .built ∧ s.nodeCount.toNat ≤ node ∧ withNode s node use = .raise s .nodeIndex) ∨
      (s.phase = .built ∧ node < s.nodeCount.toNat ∧ s.nodeAt node = none ∧
        withNode s node use = .noValue .nodeHoldsNoValue) ∨
      (∃ e, s.phase = .built ∧ node < s.nodeCount.toNat ∧ s.nodeAt node = some e ∧ withNode s node use = use e) := by
  by_cases hp : s.phase = .built
  · by_cases hs : s.nodeCount.toNat ≤ node
    · simp [withNode, hp, hs]
    · cases hc : s.nodeAt node <;> simp [withNode, hp, hs, hc, Nat.not_le.mp hs]
  · simp [withNode, hp]

/-! ### Turns -/

/-- Inversion of the engine's turn (R140): idle, INIT, an illegal word, or a command. -/
theorem engineStep_next {s t : State} (h : engineStep s = .next t) :
    (s.busy = false ∧ t = s) ∨ (s.busy = true ∧ s.cmdl = .init ∧ t = s.completeInit) ∨
      (∃ w why, s.busy = true ∧ s.cmdl = .word w ∧ decode w = .illegal why ∧ t = s.raise (illegalError why)) ∨
      (∃ w i, s.busy = true ∧ s.cmdl = .word w ∧ decode w = .command i ∧ exec i s = .next t) := by
  unfold engineStep at h
  split at h
  · rename_i hb
    cases hc : s.cmdl with
    | init => rw [hc] at h; exact .inr (.inl ⟨hb, rfl, by simpa using h.symm⟩)
    | word w =>
      simp only [hc, runWord] at h
      cases hd : decode w with
      | illegal why => rw [hd] at h; exact .inr (.inr (.inl ⟨w, why, hb, rfl, hd, by simpa using h.symm⟩))
      | command i => rw [hd] at h; exact .inr (.inr (.inr ⟨w, i, hb, rfl, hd, h⟩))
  · exact .inl ⟨by simpa using ‹¬s.busy = true›, by simpa using h.symm⟩

/-- What a host write can do (R85, R86). -/
theorem hostWrite_cases (off : Nat) (v : Word) (s : State) :
    (hostWrite off v s = s.latch v ∧ off = 0x0C ∧ s.busy = false) ∨
      (hostWrite off v s = s.overrun ∧ off = 0x0C ∧ s.busy = true) ∨ (hostWrite off v s = s ∧ off ≠ 0x0C) := by
  unfold hostWrite
  split
  · rename_i h
    have ho : off = 0x0C := by
      unfold Reg.ofOffset at h
      split at h <;> simp_all
    cases hb : s.busy <;> simp [ho]
  · rename_i r hr h
    refine .inr (.inr ⟨rfl, ?_⟩)
    rintro rfl
    exact hr (by simpa [Reg.ofOffset] using h.symm)
  · rename_i h
    refine .inr (.inr ⟨rfl, ?_⟩)
    rintro rfl
    simp [Reg.ofOffset] at h

/-- What a host read can do to the state (R83, R84, R88): pop OUT, use up a draw, or nothing. -/
theorem hostReadEffect_cases (off : Nat) (s : State) :
    hostReadEffect off s = s.popOut ∨ hostReadEffect off s = s.drawn ∨ hostReadEffect off s = s := by
  unfold hostReadEffect
  split
  · exact .inr (.inr rfl)
  · unfold Reg.readEffect
    split
    · exact .inl rfl
    · split
      · exact .inr (.inl rfl)
      · exact .inr (.inr rfl)

/-- Inversion of the step: which turn was taken and what it left. -/
theorem step_next {s t : State} (h : step s = .next t) :
    (s.nextTurn = .engine ∧ engineStep s.dropTurn = .next t) ∨
      (∃ off, s.nextTurn = .read off 4 ∧ admitted off 4 = true ∧
        t = (hostReadEffect off s.dropTurn).answer (hostReadWord off s.dropTurn)) ∨
      (∃ off v, s.nextTurn = .write off 4 v ∧ admitted off 4 = true ∧ t = hostWrite off v s.dropTurn) ∨
      (s.nextTurn = .reset ∧ t = s.dropTurn.assertReset) := by
  unfold step at h
  cases hn : s.nextTurn with
  | engine => exact .inl ⟨rfl, by simpa [hn, takeTurn] using h⟩
  | read off size =>
    simp only [hn, takeTurn, readTurn] at h
    split at h
    · rename_i ha
      obtain rfl : size = 4 := by simp [admitted] at ha; exact ha.1.1
      exact .inr (.inl ⟨off, rfl, ha, by simpa using h.symm⟩)
    · simp at h
  | write off size v =>
    simp only [hn, takeTurn, writeTurn] at h
    split at h
    · rename_i ha
      obtain rfl : size = 4 := by simp [admitted] at ha; exact ha.1.1
      exact .inr (.inr (.inl ⟨off, v, rfl, ha, by simpa using h.symm⟩))
    · simp at h
  | reset => exact .inr (.inr (.inr ⟨rfl, by simpa [hn, takeTurn] using h.symm⟩))

end Sys2Proof.Machine
end

