-- ==== Sys2Proof/Machine/Assembler.lean ====
section
/-! DEFINITION. Machine/Assembler.lean: the assembler's command line (30_encoding.md R117, D32), over the line's
characters, and the values of the host's characters. Where R117 is silent (what separates tokens, a line without a mnemonic) the
choices are the model's (assumption 25). -/

namespace Sys2Proof.Machine

/-- The tokens of a command line. -/
inductive Token where
  | name (cs : List Char)
  | number (v : Nat)
  | character (v : Nat)
  | comma
  deriving DecidableEq, Repr

/-- The mnemonic of a row (R113). -/
def mnemonicChars : Opcode → List Char
  | .nop => ['N', 'O', 'P']
  | .clear => ['C', 'L', 'E', 'A', 'R']
  | .setArity => ['S', 'E', 'T', '_', 'A', 'R', 'I', 'T', 'Y']
  | .count => ['C', 'O', 'U', 'N', 'T']
  | .build => ['B', 'U', 'I', 'L', 'D']
  | .encSym => ['E', 'N', 'C', '_', 'S', 'Y', 'M']
  | .decStart => ['D', 'E', 'C', '_', 'S', 'T', 'A', 'R', 'T']
  | .decDigit => ['D', 'E', 'C', '_', 'D', 'I', 'G', 'I', 'T']
  | .decEnd => ['D', 'E', 'C', '_', 'E', 'N', 'D']
  | .errAck => ['E', 'R', 'R', '_', 'A', 'C', 'K']
  | .qFreq => ['Q', '_', 'F', 'R', 'E', 'Q']
  | .qCode => ['Q', '_', 'C', 'O', 'D', 'E']
  | .qNode => ['Q', '_', 'N', 'O', 'D', 'E']
  | .qChild => ['Q', '_', 'C', 'H', 'I', 'L', 'D']

/-- Every row of R113, in its order. -/
def allOpcodes : List Opcode :=
  [.nop, .clear, .setArity, .count, .build, .encSym, .decStart, .decDigit, .decEnd, .errAck, .qFreq, .qCode, .qNode, .qChild]

/-- The value of a character as a symbol: the host's code unit (R117; assumption 21). -/
def charValue (c : Char) : Nat := c.toNat

/-- The face value of a digit character: 0 to 9, or A to F for 10 to 15 (R118). Any other character has none, and the host
refuses it (91 N9, I18). -/
def faceValue (c : Char) : Option Nat :=
  if '0' ≤ c ∧ c ≤ '9' then some (c.toNat - 48)
  else if 'A' ≤ c ∧ c ≤ 'F' then some (c.toNat - 55)
  else none

/-- The value of a digit character of a literal, in either case (R117; assumption 21). -/
def hexValue (c : Char) : Option Nat := if 'a' ≤ c ∧ c ≤ 'f' then some (c.toNat - 87) else faceValue c

/-- The number that digit characters write in a base, from a value so far. -/
def digitsValue (base : Nat) : Nat → List Char → Option Nat
  | v, [] => some v
  | v, c :: cs =>
    match hexValue c with
    | none => none
    | some d => if d < base then digitsValue base (base * v + d) cs else none

/-- A decimal or 0x literal (R117). -/
def literalValue (cs : List Char) : Option Nat :=
  match cs with
  | [] => none
  | '0' :: 'x' :: [] => none
  | '0' :: 'x' :: rest => digitsValue 16 0 rest
  | c :: rest => digitsValue 10 0 (c :: rest)

/-- A character of a mnemonic or a literal. -/
def isNameChar (c : Char) : Bool := c.isAlphanum || c == '_'

/-- The tokens of a line; `;` starts a comment (R117). None where a character starts no token. The line's length is fuel
enough. DESIGN CHOICE (assumption 25): spaces and tabs are skipped, and a name or number ends where its characters end, so
`COUNT'a'` and `Q_CHILD 6 , 2` are lines too. -/
def tokens : Nat → List Char → Option (List Token)
  | _, [] => some []
  | 0, _ :: _ => none
  | fuel + 1, c :: cs =>
    if c = ' ' ∨ c = '\t' then tokens fuel cs
    else if c = ';' then some []
    else if c = ',' then (tokens fuel cs).map (.comma :: ·)
    else if c = '\'' then
      match cs with
      | x :: '\'' :: rest => (tokens fuel rest).map (.character (charValue x) :: ·)
      | _ => none
    else if c.isDigit then
      match literalValue ((c :: cs).takeWhile isNameChar) with
      | none => none
      | some v => (tokens fuel ((c :: cs).dropWhile isNameChar)).map (.number v :: ·)
    else if c.isAlpha then
      (tokens fuel ((c :: cs).dropWhile isNameChar)).map (.name ((c :: cs).takeWhile isNameChar) :: ·)
    else none

/-- The row with a mnemonic. -/
def opcodeNamed (cs : List Char) : Option Opcode := allOpcodes.find? fun o => mnemonicChars o == cs

/-- The command of a row and its operand tokens (R117): a character literal stands for a symbol only. -/
def instrOfTokens (o : Opcode) (ops : List Token) : Option Instr :=
  match o, ops with
  | .nop, [] => some .nop
  | .clear, [] => some .clear
  | .build, [] => some .build
  | .decStart, [] => some .decStart
  | .decEnd, [] => some .decEnd
  | .errAck, [] => some .errAck
  | .setArity, [.number n] => some (.setArity n)
  | .count, [.number s] => some (.count s)
  | .count, [.character s] => some (.count s)
  | .encSym, [.number s] => some (.encSym s)
  | .encSym, [.character s] => some (.encSym s)
  | .decDigit, [.number d] => some (.decDigit d)
  | .qFreq, [.number s] => some (.qFreq s)
  | .qFreq, [.character s] => some (.qFreq s)
  | .qCode, [.number s] => some (.qCode s)
  | .qCode, [.character s] => some (.qCode s)
  | .qNode, [.number x] => some (.qNode x)
  | .qChild, [.number x, .comma, .number c] => some (.qChild x c)
  | _, _ => none

/-- The word of a command line's tokens; none where the assembler refuses them (R117). -/
def assembleTokens : List Token → Option Word
  | .name cs :: ops => ((opcodeNamed cs).bind (instrOfTokens · ops)).bind assemble
  | _ => none

/-- The word the assembler emits for a command line; none where it refuses it (R117), and for a line without a mnemonic, which is
no command line (DESIGN CHOICE, assumption 25). -/
def assembleLine (line : List Char) : Option Word := (tokens line.length line).bind assembleTokens

/-- The words of a text, line by line; none where a line is refused. DESIGN CHOICE (assumption 25): a blank line or one with
a comment only emits nothing. -/
def assembleText : List (List Char) → Option (List Word)
  | [] => some []
  | line :: rest =>
    if tokens line.length line = some [] then assembleText rest
    else (assembleLine line).bind fun w => (assembleText rest).map (w :: ·)

end Sys2Proof.Machine
end

