-- ==== Sys2Proof/Machine/HostProgram.lean ====
section
/-! DEFINITION. Machine/HostProgram.lean: the host-side pseudo-instructions of 30_encoding.md R118, as programs of register
accesses over the block. The engine moves after each poll of a WAIT that finds it busy, at an
`engine` line, and nowhere else in a program: a DESIGN CHOICE, since R93 allows any number of its transitions between two
accesses (assumption 19). -/

namespace Sys2Proof.Machine

/-- The block and the host's output list. -/
structure HostRun where
  block : State
  output : List Word
  deriving DecidableEq, Repr

/-- A line of a host program (R118). -/
inductive HostLine where
  /-- A command line: WAIT, then the write of its word to CMD; refused where the assembler refuses it (R117). -/
  | command (i : Instr)
  /-- WAIT, then the write of a word the assembler does not emit. -/
  | raw (w : Word)
  /-- MemRead(off, size). -/
  | read (off size : Nat)
  /-- MemWrite(off, size, v), with no WAIT. -/
  | write (off size : Nat) (v : Word)
  /-- WAIT. -/
  | wait
  /-- DRAIN. -/
  | drain
  /-- The engine takes a turn here: no line of R118, but a place in the order of R93 (assumption 19). -/
  | engine
  deriving DecidableEq, Repr

/-- One turn of the machine. None where it stops. -/
def HostRun.take (t : Turn) (h : HostRun) : Option HostRun :=
  match takeTurn t h.block with
  | .next b => some { h with block := b }
  | .fault _ => none
  | .refused _ => none

/-- One access on the platform's bus, as the turn the platform delivers. None where the model gives the access no meaning: it
is outside the register space, or R81 does not admit it. -/
def HostRun.access (a : BusAccess) (h : HostRun) : Option HostRun := (a.turn h.block.params).bind h.take

/-- An entry read from OUT_DATA (VALID = 1) joins the host's output list, whichever read took it: the end state of P5 in
95_test_vectors.md counts its raw read (assumption 26). -/
def HostRun.keep (off : Nat) (w : Word) (h : HostRun) : HostRun :=
  if off = 0x20 ∧ w.msb = true then { h with output := h.output ++ [w] } else h

/-- MemRead(off, size): the host reads at BASE + off. -/
def HostRun.readAt (off size : Nat) (h : HostRun) : Option HostRun :=
  (h.access (.read (h.block.params.address off) size)).map (HostRun.keep off (hostReadWord off h.block))

/-- MemWrite(off, size, v): the host writes at BASE + off. -/
def HostRun.writeAt (off size : Nat) (v : Word) (h : HostRun) : Option HostRun :=
  h.access (.write (h.block.params.address off) size v)

/-- DRAIN: read OUT_DATA until a read returns VALID = 0, appending each entry to the output list. The engine gets no turn
between its reads (DESIGN CHOICE, assumption 19), so one read more than OUT has entries is fuel enough. -/
def HostRun.drain : Nat → HostRun → Option HostRun
  | 0, h => some h
  | fuel + 1, h =>
    let w := hostReadWord 0x20 h.block
    (h.readAt 0x20 4).bind fun r => if w.msb then HostRun.drain fuel r else some r

/-- DRAIN to the end. -/
def HostRun.drainAll (h : HostRun) : Option HostRun := HostRun.drain (h.block.out.length + 1) h

/-- WAIT: poll STATUS until BUSY = 0, draining after each read with BUSY = 1, and then one engine turn (DESIGN CHOICE, assumption
19). None where `fuel` polls do not suffice or
the machine stops. -/
def HostRun.wait : Nat → HostRun → Option HostRun
  | 0, _ => none
  | fuel + 1, h =>
    let busy := (hostReadWord 0x10 h.block).getLsbD 0
    (h.readAt 0x10 4).bind fun r =>
      if busy then (r.drainAll.bind (HostRun.take .engine)).bind (HostRun.wait fuel) else some r

/-- Polls given to a WAIT: one transition completes every command once OUT is drained (R143, R230, R251). -/
def waitPolls : Nat := 3

/-- WAIT, then the write of a word to CMD. -/
def HostRun.issue (h : HostRun) (w : Word) : Option HostRun := (HostRun.wait waitPolls h).bind (HostRun.writeAt 0x0C 4 w)

/-- One line of a host program; none where it is refused: a command line whose operand does not fit (R117), an access that R81 does
not admit. Of the orders that R93 allows, this is one (DESIGN CHOICE, assumption 19): a read, a write and DRAIN's reads follow
each other with no engine turn between, where the program has no `engine` line. -/
def HostRun.line (l : HostLine) (h : HostRun) : Option HostRun :=
  match l with
  | .command i => (assemble i).bind h.issue
  | .raw w => h.issue w
  | .read off size => h.readAt off size
  | .write off size v => h.writeAt off size v
  | .wait => HostRun.wait waitPolls h
  | .drain => h.drainAll
  | .engine => h.take .engine

/-- A host program, line by line. -/
def HostRun.run (ls : List HostLine) (h : HostRun) : Option HostRun := ls.foldlM (fun r l => HostRun.line l r) h

/-- COUNT_STR "t": one COUNT per character. -/
def countStr (text : List Char) : List HostLine := text.map fun c => .command (.count (charValue c))

/-- ENC_STR "t": one ENC_SYM per character. -/
def encStr (text : List Char) : List HostLine := text.map fun c => .command (.encSym (charValue c))

/-- DEC_STR "d0d1...": one DEC_DIGIT per digit character, by face value, in one session; none where a character is no digit
(91 N9, I18). -/
def decStr (digits : List Char) : Option (List HostLine) :=
  (digits.mapM faceValue).map fun ds => .command .decStart :: (ds.map fun d => .command (.decDigit d)) ++ [.command .decEnd]

/-- BUILD_TEXT "t", n: the document's build(text, arity). -/
def buildText (text : List Char) (arity : Nat) : List HostLine :=
  .command .clear :: .command (.setArity arity) :: countStr text ++ [.command .build]

/-- CHECK. -/
def checkErr : List HostLine := [.wait, .read 0x14 4]

/-- END. -/
def endProgram : List HostLine := [.wait, .drain]

end Sys2Proof.Machine
end

