-- ==== Sys2Proof/Laws/HostPort.lean ====
section
/-! SUPPORT. Laws/HostPort.lean: the platform's addresses, and what an access and a command line of a host program can do,
said once. -/

namespace Sys2Proof

/-- An address has the byte offset `off` iff it is BASE + off and `off` is in the window (R80). -/
theorem Params.offsetOf_eq_some (p : Params) (addr off : Nat) :
    p.offsetOf addr = some off ↔ addr = p.address off ∧ off < 0x100 := by
  unfold Params.offsetOf Params.address
  split
  · simp only [Option.some.injEq]; omega
  · simp only [reduceCtorEq, false_iff]; omega

/-- The address of an offset in the window has that offset. -/
theorem Params.offsetOf_address (p : Params) {off : Nat} (h : off < 0x100) : p.offsetOf (p.address off) = some off :=
  (p.offsetOf_eq_some _ _).2 ⟨rfl, h⟩

/-- The address of an offset beyond the window has none. -/
theorem Params.offsetOf_address_none (p : Params) {off : Nat} (h : ¬ off < 0x100) : p.offsetOf (p.address off) = none :=
  Option.eq_none_iff_forall_ne_some.2 fun a ha => h (by
    have := (p.offsetOf_eq_some _ _).1 ha
    simp only [Params.address] at this
    omega)

end Sys2Proof

namespace Sys2Proof.Machine

/-- `admitted` is R81's condition. -/
theorem admitted_iff (off size : Nat) : admitted off size = true ↔ size = 4 ∧ off % 4 = 0 ∧ off < 0x100 := by
  simp [admitted, and_assoc]

/-- A host program's read: where R81 admits it, the read turn, with an entry of OUT_DATA kept; otherwise it has no
meaning. -/
theorem HostRun.readAt_eq (off size : Nat) (h : HostRun) :
    h.readAt off size = if admitted off size = true then
      some (HostRun.keep off (hostReadWord off h.block)
        { h with block := (hostReadEffect off h.block).answer (hostReadWord off h.block) }) else none := by
  by_cases ho : off < 0x100
  · simp only [HostRun.readAt, HostRun.access, BusAccess.turn, Params.offsetOf_address _ ho, Option.map_some, Option.bind_some,
      HostRun.take, takeTurn, readTurn]
    by_cases ha : admitted off size = true <;> simp [ha]
  · have : ¬ admitted off size = true := fun h' => ho ((admitted_iff _ _).1 h').2.2
    simp [HostRun.readAt, HostRun.access, BusAccess.turn, Params.offsetOf_address_none _ ho, this]

/-- A host program's write: where R81 admits it, the write turn; otherwise it has no meaning. -/
theorem HostRun.writeAt_eq (off size : Nat) (v : Word) (h : HostRun) :
    h.writeAt off size v = if admitted off size = true then some { h with block := hostWrite off v h.block } else none := by
  by_cases ho : off < 0x100
  · simp only [HostRun.writeAt, HostRun.access, BusAccess.turn, Params.offsetOf_address _ ho, Option.map_some, Option.bind_some,
      HostRun.take, takeTurn, writeTurn]
    by_cases ha : admitted off size = true <;> simp [ha]
  · have : ¬ admitted off size = true := fun h' => ho ((admitted_iff _ _).1 h').2.2
    simp [HostRun.writeAt, HostRun.access, BusAccess.turn, Params.offsetOf_address_none _ ho, this]

/-- A command line: where the assembler has a word for it, WAIT and the write of that word; otherwise it is refused (R117,
R118). -/
theorem HostRun.line_command (i : Instr) (h : HostRun) :
    HostRun.line (.command i) h = if i.wellFormed = true then h.issue (encode i) else none := by
  by_cases hw : i.wellFormed = true <;> simp [HostRun.line, assemble, hw]

end Sys2Proof.Machine
end

