-- ==== Sys2Proof/Laws/Memory.lean ====
section
/-! SUPPORT. Laws/Memory.lean: read after write and erase, and the canonical form is kept by every memory operation. -/

namespace Sys2Proof.Machine

variable {α : Type}

@[simp] theorem Memory.read_nil (k : Nat) : Memory.read ([] : Memory α) k = none := rfl

theorem Memory.read_cons (a : Nat) (v : α) (m : Memory α) (k : Nat) :
    Memory.read ((a, v) :: m) k = if k = a then some v else Memory.read m k := rfl

/-- A read after a write at the same index gives the value written. -/
@[simp] theorem Memory.read_write_same (m : Memory α) (k : Nat) (v : α) : (Memory.write m k v).read k = some v := by
  induction m with
  | nil => simp [Memory.write, Memory.read_cons]
  | cons e rest ih =>
    obtain ⟨a, x⟩ := e
    unfold Memory.write
    split
    · simp [Memory.read_cons]
    · split
      · simp [Memory.read_cons]
      · simp [Memory.read_cons, *]

/-- A write leaves every other index alone. -/
theorem Memory.read_write_other (m : Memory α) {k j : Nat} (v : α) (h : j ≠ k) :
    (Memory.write m k v).read j = m.read j := by
  induction m with
  | nil => simp [Memory.write, Memory.read_cons, h]
  | cons e rest ih =>
    obtain ⟨a, x⟩ := e
    unfold Memory.write
    split
    · simp [Memory.read_cons, h]
    · split
      · subst_vars; simp [Memory.read_cons, h]
      · simp [Memory.read_cons, ih]

/-- Everything a write can do to a read. -/
theorem Memory.read_write (m : Memory α) (k j : Nat) (v : α) :
    (Memory.write m k v).read j = if j = k then some v else m.read j := by
  split
  · subst_vars; exact Memory.read_write_same ..
  · exact Memory.read_write_other _ _ ‹_›

theorem Memory.wf_cons (a : Nat) (x : α) (m : Memory α) :
    Memory.wf ((a, x) :: m) = true ↔ (∀ e ∈ m, a < e.1) ∧ Memory.wf m = true := by
  simp [Memory.wf]

/-- An entry of a written memory is the one written or was there. -/
theorem Memory.mem_write {m : Memory α} {k : Nat} {v : α} {e : Nat × α} (h : e ∈ Memory.write m k v) :
    e = (k, v) ∨ e ∈ m := by
  induction m with
  | nil => simpa [Memory.write] using h
  | cons x rest ih =>
    obtain ⟨a, y⟩ := x
    unfold Memory.write at h
    split at h
    · simpa using h
    · split at h
      · rcases List.mem_cons.mp h with h | h <;> simp [h]
      · rcases List.mem_cons.mp h with h | h
        · simp [h]
        · rcases ih h with h | h <;> simp [h]

/-- A write keeps the canonical form. -/
theorem Memory.write_wf {m : Memory α} (k : Nat) (v : α) (h : Memory.wf m = true) : Memory.wf (Memory.write m k v) = true := by
  induction m with
  | nil => simp [Memory.write, Memory.wf]
  | cons x rest ih =>
    obtain ⟨a, y⟩ := x
    obtain ⟨h1, h2⟩ := (Memory.wf_cons ..).mp h
    unfold Memory.write
    split
    · rename_i hk
      refine (Memory.wf_cons ..).mpr ⟨?_, h⟩
      intro e he
      rcases List.mem_cons.mp he with rfl | he
      · exact hk
      · exact lt_trans hk (h1 e he)
    · split
      · subst_vars; exact (Memory.wf_cons ..).mpr ⟨h1, h2⟩
      · refine (Memory.wf_cons ..).mpr ⟨?_, ih h2⟩
        intro e he
        rcases Memory.mem_write he with rfl | he
        · show a < k; omega
        · exact h1 e he

/-- Erasing only removes entries. -/
theorem Memory.mem_erase {m : Memory α} {k : Nat} {e : Nat × α} (h : e ∈ Memory.erase m k) : e ∈ m := by
  induction m with
  | nil => simp [Memory.erase] at h
  | cons x rest ih =>
    obtain ⟨a, y⟩ := x
    unfold Memory.erase at h
    split at h
    · exact List.mem_cons_of_mem _ h
    · rcases List.mem_cons.mp h with h | h
      · simp [h]
      · exact List.mem_cons_of_mem _ (ih h)

/-- Erasing keeps the canonical form. -/
theorem Memory.erase_wf {m : Memory α} (k : Nat) (h : Memory.wf m = true) : Memory.wf (Memory.erase m k) = true := by
  induction m with
  | nil => rfl
  | cons x rest ih =>
    obtain ⟨a, y⟩ := x
    obtain ⟨h1, h2⟩ := (Memory.wf_cons ..).mp h
    unfold Memory.erase
    split
    · exact h2
    · exact (Memory.wf_cons ..).mpr ⟨fun e he => h1 e (Memory.mem_erase he), ih h2⟩

/-- In a canonical memory an index below every listed one is not listed. -/
theorem Memory.read_none_of_lt {m : Memory α} {k : Nat} (h : ∀ e ∈ m, k < e.1) : m.read k = none := by
  induction m with
  | nil => rfl
  | cons x rest ih =>
    obtain ⟨a, y⟩ := x
    have ha : k < a := h (a, y) (by simp)
    rw [Memory.read_cons, if_neg (by omega)]
    exact ih fun e he => h e (List.mem_cons_of_mem _ he)

/-- In a canonical memory an entry is listed iff reading its index gives it. -/
theorem Memory.mem_iff_read {m : Memory α} (h : Memory.wf m = true) (k : Nat) (v : α) :
    (k, v) ∈ m ↔ m.read k = some v := by
  induction m with
  | nil => simp
  | cons x rest ih =>
    obtain ⟨a, y⟩ := x
    obtain ⟨h1, h2⟩ := (Memory.wf_cons ..).mp h
    rw [Memory.read_cons, List.mem_cons, ih h2]
    split
    · subst_vars
      simp [Memory.read_none_of_lt h1, eq_comm]
    · simp [*]

/-- Writing FREQ keeps its canonical form (R35). -/
theorem freqWrite_wf {m : Memory Nat} (sym v : Nat) (h : freqWf m = true) : freqWf (freqWrite m sym v) = true := by
  simp only [freqWf, Bool.and_eq_true, List.all_eq_true] at h ⊢
  unfold freqWrite
  split
  · exact ⟨Memory.erase_wf _ h.1, fun e he => h.2 e (Memory.mem_erase he)⟩
  · refine ⟨Memory.write_wf _ _ h.1, fun e he => ?_⟩
    rcases Memory.mem_write he with rfl | he
    · simpa using ‹¬v = 0›
    · exact h.2 e he

/-- FREQ of the reset state is canonical. -/
theorem reset_freqWf (p : Params) : freqWf (State.resetWith p).freq = true := rfl

/-- The code table of the reset state is canonical. -/
theorem reset_codes_wf (p : Params) : Memory.wf (State.resetWith p).codes = true := rfl

end Sys2Proof.Machine
end

