-- ==== Sys2Proof/Laws/PerInstr.lean ====
section
/-! SUPPORT. Laws/PerInstr.lean: the family EncodingRow, one lemma per constructor: the OP of a row's match word is the row's
code, and the row is found by it (30_encoding.md R110, R113, R114). -/

namespace Sys2Proof.Laws.EncodingRow

/-- Every row of R113 is selected by its own opcode byte, and its match word has that byte and no reserved bit. -/
theorem row_of_opcode (o : Opcode) :
    Opcode.ofCode o.code = some o ∧ opField o.matchWord = o.code ∧ o.matchWord &&& o.mask = o.matchWord := by
  cases o <;> decide

/-- The command's row is the one its opcode byte selects, and the row's match word has that opcode byte and no reserved
bit. -/
def Statement (i : Instr) : Prop :=
  Opcode.ofCode i.opcode.code = some i.opcode ∧ opField i.opcode.matchWord = i.opcode.code ∧
    i.opcode.matchWord &&& i.opcode.mask = i.opcode.matchWord

theorem nop : Statement .nop := row_of_opcode _

theorem clear : Statement .clear := row_of_opcode _

theorem setArity (arity : Nat) : Statement (.setArity arity) := row_of_opcode _

theorem count (sym : Nat) : Statement (.count sym) := row_of_opcode _

theorem build : Statement .build := row_of_opcode _

theorem encSym (sym : Nat) : Statement (.encSym sym) := row_of_opcode _

theorem decStart : Statement .decStart := row_of_opcode _

theorem decDigit (dig : Nat) : Statement (.decDigit dig) := row_of_opcode _

theorem decEnd : Statement .decEnd := row_of_opcode _

theorem errAck : Statement .errAck := row_of_opcode _

theorem qFreq (sym : Nat) : Statement (.qFreq sym) := row_of_opcode _

theorem qCode (sym : Nat) : Statement (.qCode sym) := row_of_opcode _

theorem qNode (node : Nat) : Statement (.qNode node) := row_of_opcode _

theorem qChild (node ci : Nat) : Statement (.qChild node ci) := row_of_opcode _

end Sys2Proof.Laws.EncodingRow
end

