-- ==== Sys2Proof/Laws/Run.lean ====
section
/-! SUPPORT. Laws/Run.lean: the one induction over runs. -/

namespace Sys2Proof.Laws

/-- What holds of a state and is kept by every step that answers a next state holds after any run from it. -/
theorem run_keeps {P : Sys2Proof.Machine.State → Prop}
    (keep : ∀ s t, P s → Sys2Proof.Machine.step s = .next t → P t) :
    ∀ (k : Nat) (s t : Sys2Proof.Machine.State), P s → Host.Core.run Sys2Proof.core k s = .next t → P t := by
  intro k
  induction k with
  | zero =>
    intro s t hs h
    simp only [Host.Core.run] at h
    cases h
    exact hs
  | succ k ih =>
    intro s t hs h
    simp only [Host.Core.run] at h
    split at h
    · rename_i u hu
      exact ih u t (keep s u hs hu) h
    · cases h
    · cases h

end Sys2Proof.Laws
end

