-- ==== Sys2Proof/Tests/Slice0.lean ====
section
/-! SUPPORT. Tests/Slice0.lean: the WellFormed smoke, decoding of words written out from 30_encoding.md R111 and R113, one or two
one-step tests per command with results from 95_test_vectors.md, and a witness for every statement with hypotheses. -/

-- Each kernel evaluation below would otherwise wait on the one before it in a thread of its own.
set_option Elab.async false

namespace Sys2Proof.Tests

open Sys2Proof.Machine

/-! ### Helpers -/

/-- The parameters of program P5 of 95_test_vectors.md, at a BASE that is not 0. -/
def small : Params := ⟨2, 10, 32, 3, 0x40000100⟩

/-- The state an outcome carries, or the reset state where it carries none. -/
def stateOf : Host.Outcome State Fault Refusal → State
  | .next t => t
  | .fault _ => State.reset
  | .refused _ => State.reset

/-- The state after some commands. -/
def after (is : List Instr) (s : State) : State := stateOf (execAll is s)

/-- The clean state (R312) at parameters. -/
def cleanAt (p : Params) : State := (State.resetWith p).completeInit

/-- The clean state of this hardware. -/
def clean : State := cleanAt Params.thisHardware

/-- The V1 tree "aabbc", n = 2. -/
def v1 : State := after [.setArity 2, .count 0x61, .count 0x61, .count 0x62, .count 0x62, .count 0x63, .build] clean

/-- P5's tree: symbols 0 and 1 once, 2 twice, n = 2. -/
def p5 : State := after [.setArity 2, .count 0, .count 1, .count 2, .count 2, .build] (cleanAt small)

/-- The V10 tree on symbols 0 to 3, n = 3: one dummy. -/
def v10 : State := after [.setArity 3, .count 0, .count 1, .count 2, .count 3, .build] (cleanAt small)

/-- The single-symbol tree of symbol 1, n = 3. -/
def single : State := after [.setArity 3, .count 1, .count 1, .build] (cleanAt small)

/-- Counted, arity set, not built. -/
def counted : State := after [.setArity 2, .count 0, .count 1, .count 2, .count 2] (cleanAt small)

/-- A session open at the root of P5's tree. -/
def session : State := after [.decStart] p5

/-- P5's hold: OUT holds two digits, ENC_SYM 1 is latched. -/
def held : State := (after [.encSym 0] p5).latch 0x05000001

/-- The state with a turn to take. -/
def withTurn (s : State) (t : Turn) : State := { s with turns := [t] }

/-- OUT full of digits, at P5's parameters. -/
def full : State := after [.encSym 2, .encSym 0] p5

/-! ### WellFormed smoke (R117): each check refuses an ill-formed operand and admits the largest one that fits -/

theorem test_arity_too_large : Instr.wellFormed (.setArity 256) = false ∧ Instr.wellFormed (.setArity 255) = true := by decide

theorem test_count_sym_too_large : Instr.wellFormed (.count 0x10000) = false ∧ Instr.wellFormed (.count 0xFFFF) = true := by decide

theorem test_encSym_sym_too_large : Instr.wellFormed (.encSym 0x10000) = false ∧ Instr.wellFormed (.encSym 0xFFFF) = true := by
  decide

theorem test_digit_too_large : Instr.wellFormed (.decDigit 16) = false ∧ Instr.wellFormed (.decDigit 15) = true := by decide

theorem test_qFreq_sym_too_large : Instr.wellFormed (.qFreq 0x10000) = false ∧ Instr.wellFormed (.qFreq 0xFFFF) = true := by
  decide

theorem test_qCode_sym_too_large : Instr.wellFormed (.qCode 0x10000) = false ∧ Instr.wellFormed (.qCode 0xFFFF) = true := by
  decide

theorem test_qNode_too_large : Instr.wellFormed (.qNode 0x40000) = false ∧ Instr.wellFormed (.qNode 0x3FFFF) = true := by decide

theorem test_qChild_node_too_large : Instr.wellFormed (.qChild 0x40000 0) = false := by decide

theorem test_qChild_ci_too_large : Instr.wellFormed (.qChild 0 16) = false ∧ Instr.wellFormed (.qChild 0x3FFFF 15) = true := by
  decide

/-! ### Decode: words written out bit by bit, OP in the first eight (R111, R113) -/

theorem test_decode_nop : decode 0b00000000000000000000000000000000 = .command .nop := by decide

theorem test_decode_clear : decode 0b00000001000000000000000000000000 = .command .clear := by decide

theorem test_decode_setArity : decode 0b00000010000000000000000010000001 = .command (.setArity 0x81) := by decide

theorem test_decode_count : decode 0b00000011000000001000000001100001 = .command (.count 0x8061) := by decide

theorem test_decode_build : decode 0b00000100000000000000000000000000 = .command .build := by decide

theorem test_decode_encSym : decode 0b00000101000000000000000001100011 = .command (.encSym 0x63) := by decide

theorem test_decode_decStart : decode 0b00000110000000000000000000000000 = .command .decStart := by decide

theorem test_decode_decDigit : decode 0b00000111000000000000000000001001 = .command (.decDigit 9) := by decide

theorem test_decode_decEnd : decode 0b00001000000000000000000000000000 = .command .decEnd := by decide

theorem test_decode_errAck : decode 0b00001001000000000000000000000000 = .command .errAck := by decide

theorem test_decode_qFreq : decode 0b00001010000000000000000001100010 = .command (.qFreq 0x62) := by decide

theorem test_decode_qCode : decode 0b00001011000000000000000001100010 = .command (.qCode 0x62) := by decide

theorem test_decode_qNode : decode 0b00001100000000100000000000000101 = .command (.qNode 0x20005) := by decide

theorem test_decode_qChild : decode 0b00001101001001100000000000000110 = .command (.qChild 0x20006 9) := by decide

/-- The illegal words of 95_test_vectors.md 2.1. -/
theorem test_decode_illegal :
    [(0x00000001 : Word), 0x02000100, 0x03010061, 0x07000010, 0x0C040000, 0x0D400000].map decode =
      List.replicate 6 (.illegal .reservedBit) ∧
    [(0x0E000000 : Word), 0xFF000000].map decode = List.replicate 2 (.illegal .unassignedOpcode) := by decide

/-- The columns match and mask of R113, made from OP and the formats, are those of the table. -/
theorem test_opcode_map : allOpcodes.map (fun o => (o.matchWord, o.mask)) = opcodeMap.map (fun r => (r.matchWord, r.mask)) := by
  decide

theorem test_decodeTableWord : decodeTableWord 32 0x0D080006 = some (.qChild 6 2) ∧ decodeTableWord 32 0x0E000000 = none := by
  decide

/-- The assembler emits R119's word for Q_CHILD 6, 2 and refuses an arity that does not fit. -/
theorem test_assembler :
    assembleLine ['Q', '_', 'C', 'H', 'I', 'L', 'D', ' ', '6', ',', ' ', '2', ' ', ';', 'x'] = some 0x0D080006 ∧
    assembleLine ['C', 'O', 'U', 'N', 'T', ' ', '\'', 'a', '\''] = some 0x03000061 ∧
    assembleLine ['S', 'E', 'T', '_', 'A', 'R', 'I', 'T', 'Y', ' ', '2', '5', '6'] = none := by decide +kernel

/-! ### One command at a time: results from 95_test_vectors.md -/

/-- C9. -/
theorem test_nop : (after [.nop] clean).statusWord = 0x00000100 ∧ (after [.nop] clean).errWord = 0 := by decide +kernel

/-- C12. -/
theorem test_clear :
    (after [.clear] (State.overrun (after [.encSym 0x61] v1))).statusWord = 0x00000140 ∧
      (after [.clear] v1).configWord = 0x00000002 := by decide +kernel

/-- C13, C14. -/
theorem test_setArity : (after [.setArity 3] clean).configWord = 0x00000003 ∧ (after [.setArity 7] v1).configWord = 0x00000207 := by
  decide +kernel

/-- F4, F5. -/
theorem test_count : (after [.count 0] clean).kcount = 1 ∧ (after [.count 0x100] clean).errWord = 0x00140014 := by decide +kernel

/-- F7: FREQW = 2. -/
theorem test_count_overflow :
    (after [.count 3] { cleanAt ⟨8, 10, 2, 256, 0⟩ with total := 3, freq := [(1, 1), (2, 2)], kcount := 2 }).errWord = 0x00150015 := by
  decide +kernel

/-- V1's nodes and codes. -/
theorem test_build_v1 :
    v1.nodes = [.leaf 0x61 2, .leaf 0x62 2, .leaf 0x63 1, .internal 3 [2, 0], .internal 5 [1, 3]] ∧
      v1.codes = [(0x61, [1, 1]), (0x62, [0]), (0x63, [1, 0])] := by decide +kernel

/-- B1, B6 and V10's padded tree. -/
theorem test_build_padded :
    (after [.build] clean).errWord = 0x00010001 ∧
      v10.nodes.drop 4 = [.dummy, .internal 2 [4, 0, 1], .internal 4 [2, 3, 5]] := by decide +kernel

/-- L1, L3. -/
theorem test_encSym :
    (after [.encSym 0x63] v1).out.map OutEntry.word = [0x90000001, 0x90000000] ∧ (after [.encSym 0x7A] v1).errWord = 0x02020202 := by
  decide +kernel

/-- P5's hold. -/
theorem test_encSym_holds : stateOf (exec (.encSym 1) held) = held ∧ held.hold = true := by decide +kernel

/-- D9 and D10 of 95_test_vectors.md, with no session since BUILD: Sequence(3), CURSOR = ROOT = 4 (R44). -/
theorem test_cursor_without_session :
    v1.cursor = 4 ∧ (after [.decDigit 0] v1).cursor = 4 ∧ (after [.decDigit 0] v1).errWord = 0x03110311 ∧
      (after [.decEnd] v1).cursor = 4 := by decide +kernel

/-- D14 and R250's example. -/
theorem test_decStart : (after [.decStart] v1).cursor = 4 ∧ (after [.decStart] clean).errWord = 0x02110211 := by decide +kernel

/-- D1, D5. -/
theorem test_decDigit :
    (after [.decDigit 0] (after [.decStart] v1)).out.map OutEntry.word = [0xA0000062] ∧
      (after [.decDigit 2] (after [.decStart] v1)).decState = .aborted := by decide +kernel

/-- D20, D16. -/
theorem test_decDigit_errors :
    (after [.decStart, .decDigit 2, .decDigit 0] v10).errWord = 0x02030203 ∧
      (after [.decStart, .decDigit 1] single).errWord = 0x05030503 := by decide +kernel

/-- D4, D8. -/
theorem test_decEnd :
    (after [.decStart, .decDigit 1, .decEnd] v1).errWord = 0x03030303 ∧ (after [.decStart, .decEnd] v1).errWord = 0 := by
  decide +kernel

/-- C11. -/
theorem test_errAck :
    (after [.errAck] { clean with sticky := true, firstCode := 3, firstSub := 4, ovr := true }).statusWord = 0x00000100 := by
  decide +kernel

/-- F10, X9. -/
theorem test_qFreq : (after [.qFreq 0x63] v1).res0 = 1 ∧ (after [.qFreq 0x100] clean).errWord = 0x00140014 := by decide +kernel

/-- L6, L8. -/
theorem test_qCode : (after [.qCode 0x61] v1).res1 = 0x00000011 ∧ (after [.qCode 0x63] v1).res1 = 0x00000001 := by decide +kernel

/-- L12: digit j in bits [4j+3:4j], the ninth digit left out. -/
theorem test_packDigits : packDigits [1, 1, 1, 1, 1, 1, 1, 1, 0] = 0x11111111 ∧ packDigits [2, 1] = 0x12 := by decide

/-- The tree queries of 2.4 on V1 and V10. -/
theorem test_qNode : (after [.qNode 0] v1).res1 = 0x40000061 ∧ (after [.qNode 4] v10).res1 = 0x80000000 := by decide +kernel

theorem test_qChild :
    (after [.qChild 4 1] v1).res0 = 3 ∧ (after [.qChild 9 15] v1).errWord = 0x01160116 := by decide +kernel

/-! ### The host's port, reset and the step -/

/-- C3, C4. -/
theorem test_hardwired : [0x00, 0x04, 0x08, 0x0C, 0x40, 0xFC].map (hostReadWord · clean) =
    [0x48554631, 0x00200A08, 0x00000100, 0, 0, 0] := by decide +kernel

/-- C8: a CMD write dropped during INIT. -/
theorem test_write_during_init :
    (stateOf (step (withTurn State.reset (.write 0x0C 4 0x02000002)))).completeInit.statusWord = 0x00000140 := by decide +kernel

/-- P5: BUSY = 1, HOLD = 1 during the hold, OUT neither empty nor full, whatever the unspecified fields read. -/
theorem test_status_held : held.statusWhileBusy 0 = 0x00000081 ∧ held.statusWhileBusy 0xFFFFFFFF = 0x000000BF := by
  decide +kernel

/-- 0x00000242 of P5: PHASE, OVR, OUT_FULL. -/
theorem test_status_full : full.overrun.statusWord = 0x00000242 := by decide +kernel

/-- The word placed by withFetchWord is the one the next step runs: Q_NODE in phase IDLE. -/
theorem test_withFetchWord : (stateOf (step (State.reset.withFetchWord 32 0x0C000000))).errWord = 0x02110211 := by decide +kernel

/-- DRAIN of a full OUT returns its entries in order and stops at VALID = 0 (R118). -/
theorem test_drain : (HostRun.drainAll ⟨full, []⟩).map HostRun.output = some [0x90000000, 0x90000001, 0x90000000] := by
  decide +kernel

/-- R81: a host program's access gets a meaning only where it is admitted. -/
theorem test_hostProgram_admits :
    [HostLine.read 0x21 4, .read 0x20 2, .read 0x100 4, .write 0x101 4 5, .write 0x0C 1 5, .read 0x20 4, .write 0x40 4 5].map
      (fun l => (HostRun.line l ⟨full, []⟩).isSome) = [false, false, false, false, false, true, true] := by decide +kernel

/-- P5: the entry that a raw read of OUT_DATA returns is in the host's output list. -/
theorem test_raw_read_keeps : (HostRun.line (.read 0x20 4) ⟨held, []⟩).map HostRun.output = some [0x90000001] := by decide +kernel

/-- R117: the line of a command whose operand does not fit its field writes no word. -/
theorem test_hostProgram_refuses_operand :
    HostRun.line (.command (.count 0x1000061)) ⟨clean, []⟩ = none ∧
    (HostRun.line (.command (.count 0x61)) ⟨clean, []⟩).map (·.block.cmdl) = some (.word 0x03000061) := by decide +kernel

/-- R118: digit characters by face value; D6's F is 15. N9, I18: no other character is a digit. -/
theorem test_decStr :
    decStr ['0', '9', 'A', 'F'] = some [.command .decStart, .command (.decDigit 0), .command (.decDigit 9),
      .command (.decDigit 10), .command (.decDigit 15), .command .decEnd] ∧
    decStr ['G'] = none ∧ decStr ['a'] = none := by decide +kernel

/-- A comment-only line emits nothing (assumption 25). -/
theorem test_assembleText : assembleText [[' ', ';', 'x'], ['N', 'O', 'P'], []] = some [0] := by decide +kernel

/-- R80: the window is the 256 bytes at BASE. -/
theorem test_base :
    [0x400000FC, 0x40000100, 0x40000110, 0x400001FC, 0x40000200].map (fun a => (BusAccess.read a 4).turn small) =
      [none, some (.read 0 4), some (.read 0x10 4), some (.read 0xFC 4), none] := by decide +kernel

/-! ### Witnesses: for each statement with hypotheses, a concrete state and operands that meet them, clause by clause -/

/-- The outcome is a next state. -/
def isNext : Host.Outcome State Fault Refusal → Bool
  | .next _ => true
  | .fault _ => false
  | .refused _ => false

/-- An outcome that is a next state is the next state it carries. -/
theorem next_of_isNext {o : Host.Outcome State Fault Refusal} (h : isNext o = true) : o = .next (stateOf o) := by
  cases o <;> simp_all [isNext, stateOf]

theorem p5_inv : p5.Inv :=
  ⟨by decide +kernel, by decide +kernel, by decide +kernel, by decide +kernel, by decide +kernel, by decide +kernel⟩

theorem v10_inv : v10.Inv :=
  ⟨by decide +kernel, by decide +kernel, by decide +kernel, by decide +kernel, by decide +kernel, by decide +kernel⟩

theorem single_inv : single.Inv :=
  ⟨by decide +kernel, by decide +kernel, by decide +kernel, by decide +kernel, by decide +kernel, by decide +kernel⟩

theorem counted_inv : counted.Inv :=
  ⟨by decide +kernel, by decide +kernel, by decide +kernel, by decide +kernel, by decide +kernel, by decide +kernel⟩

theorem clean_inv : clean.Inv :=
  ⟨by decide +kernel, by decide +kernel, by decide +kernel, by decide +kernel, by decide +kernel, by decide +kernel⟩

theorem full_inv : full.Inv :=
  ⟨by decide +kernel, by decide +kernel, by decide +kernel, by decide +kernel, by decide +kernel, by decide +kernel⟩

/-- One symbol counted, arity 10, not built. -/
def oneSymbol : State := after [.setArity 10, .count 3] (cleanAt small)

theorem oneSymbol_inv : oneSymbol.Inv :=
  ⟨by decide +kernel, by decide +kernel, by decide +kernel, by decide +kernel, by decide +kernel, by decide +kernel⟩

/-- The latch of a command on a state. -/
def latched (i : Instr) (s : State) : State := s.latch (encode i)

theorem witness_DecodeOfEncodeIsTheCommand :
    ∀ i ∈ [Instr.qChild 0x3FFFF 15, .setArity 255, .count 0xFFFF, .decDigit 15, .nop], i.wellFormed = true := by decide

theorem witness_DecodedCommandEncodesBack : decode 0x0D3FFFFF = .command (.qChild 0x3FFFF 15) := by decide

theorem witness_DecodeFollowsTheOpcodeMap :
    0x0D < (0x0E000000 : Word).toNat / 2 ^ 24 ∧
    (∃ row ∈ opcodeMap, (0x0DFFFFFF : Word).toNat / 2 ^ 24 = row.op ∧ (0x0DFFFFFF : Word) &&& row.mask ≠ row.matchWord) ∧
    (∃ row ∈ opcodeMap, (0x0D3FFFFF : Word).toNat / 2 ^ 24 = row.op ∧ (0x0D3FFFFF : Word) &&& row.mask = row.matchWord) := by
  decide

theorem witness_EngineStepRunsTheLatchedCommand :
    (clean.nextTurn = .engine ∧ clean.busy = false) ∧
    (State.reset.nextTurn = .engine ∧ State.reset.busy = true ∧ State.reset.cmdl = .init) ∧
    (let s := clean.latch 0x0E000000
     s.nextTurn = .engine ∧ s.busy = true ∧ s.cmdl = .word 0x0E000000) ∧
    (let s := clean.latch 0x00000001
     s.nextTurn = .engine ∧ s.busy = true ∧ s.cmdl = .word 0x00000001) ∧
    (let s := clean.latch 0x00000000
     s.nextTurn = .engine ∧ s.busy = true ∧ s.cmdl = .word 0x00000000) ∧
    decode 0x0E000000 = .illegal .unassignedOpcode ∧ decode 0x00000001 = .illegal .reservedBit ∧
    decode 0x00000000 = .command .nop := by decide +kernel

theorem witness_IllegalWordOnlyReportsItsError :
    let s := clean.latch 0x0E000000
    (s.nextTurn = .engine ∧ s.busy = true ∧ s.cmdl = .word 0x0E000000) ∧ 0x0D < (0x0E000000 : Word).toNat / 2 ^ 24 ∧
    ∃ row ∈ opcodeMap, (0x0D400000 : Word).toNat / 2 ^ 24 = row.op ∧ (0x0D400000 : Word) &&& row.mask ≠ row.matchWord := by
  decide +kernel

theorem witness_CompletionWritesTheErrorRegisters :
    (0 : BitVec 8) = 0 ∧ ((0x11 : BitVec 8) ≠ 0 ∧ (after [.build] clean).sticky = true) ∧ clean.sticky = false := by
  decide +kernel

/-- A hold; a first failure; a second failure; a success. -/
theorem witness_EveryCommandCompletesOrHolds :
    clean.Inv ∧
    (∃ t, exec (.encSym 1) held = .next t ∧ Waits (.encSym 1) held) ∧
    (∃ t, exec .build clean = .next t ∧ ¬ Waits .build clean ∧ t.lastCode ≠ 0 ∧ clean.sticky = false) ∧
    (∃ t, exec .build (after [.build] clean) = .next t ∧ ¬ Waits .build (after [.build] clean) ∧ t.lastCode ≠ 0 ∧
      (after [.build] clean).sticky = true) ∧
    (∃ t, exec .nop clean = .next t ∧ ¬ Waits .nop clean ∧ t.lastCode = 0 ∧ Instr.nop ≠ .clear ∧ Instr.nop ≠ .errAck) :=
  ⟨clean_inv, ⟨_, next_of_isNext (by decide +kernel), by decide +kernel⟩, ⟨_, next_of_isNext (by decide +kernel), by decide +kernel⟩,
    ⟨_, next_of_isNext (by decide +kernel), by decide +kernel⟩, ⟨_, next_of_isNext (by decide +kernel), by decide +kernel⟩⟩

theorem witness_FailingCommandChangesNothingElse :
    (∃ t, exec (.decDigit 2) session = .next t ∧ t.lastCode ≠ 0) ∧ (∃ t, exec .build clean = .next t ∧ t.lastCode ≠ 0) :=
  ⟨⟨_, next_of_isNext (by decide +kernel), by decide +kernel⟩, ⟨_, next_of_isNext (by decide +kernel), by decide +kernel⟩⟩

theorem witness_CompletionCodesAreThoseOfTheTable :
    (∃ t, exec (.decDigit 2) session = .next t ∧ ¬ Waits (.decDigit 2) session) ∧
    (∃ t, decode 0xFF000000 = .illegal .unassignedOpcode ∧ runWord 0xFF000000 clean = .next t) :=
  ⟨⟨_, next_of_isNext (by decide +kernel), by decide +kernel⟩, ⟨_, by decide, next_of_isNext (by decide +kernel)⟩⟩

theorem witness_CmdWriteIsAcceptedOnlyWhenIdle :
    ((withTurn clean (.write 0x0C 4 5)).turns = .write 0x0C 4 5 :: [] ∧ (withTurn clean (.write 0x0C 4 5)).busy = false) ∧
    ((withTurn held (.write 0x0C 4 5)).turns = .write 0x0C 4 5 :: [] ∧ (withTurn held (.write 0x0C 4 5)).busy = true) := by
  decide +kernel

theorem witness_WritesElsewhereAreIgnored :
    ∀ off ∈ [0x00, 0x08, 0x10, 0x3C, 0x40, 0xFC],
      (withTurn clean (.write off 4 5)).turns = .write off 4 5 :: [] ∧ off % 4 = 0 ∧ off < 0x100 ∧ off ≠ 0x0C := by
  decide +kernel

theorem witness_OutDataReadPopsTheOldestEntry :
    ∀ s ∈ [(clean, ([] : List OutEntry)), (held, [⟨.digit, 1⟩, ⟨.digit, 0⟩]), (after [.decStart, .decDigit 0] p5, [⟨.symbol, 2⟩])],
      (withTurn s.1 (.read 0x20 4)).turns = .read 0x20 4 :: [] ∧ (withTurn s.1 (.read 0x20 4)).out = s.2 := by decide +kernel

theorem witness_IdleReadReturnsTheRegister :
    let s := withTurn p5 (.read 0x3C 4)
    s.Inv ∧ s.busy = false ∧ s.turns = .read 0x3C 4 :: [] ∧ (0x3C, 3) ∈ registerValues s :=
  ⟨⟨by decide +kernel, by decide +kernel, by decide +kernel, by decide +kernel, by decide +kernel, by decide +kernel⟩,
    by decide +kernel⟩

theorem witness_BusyReadIsExactOrFree :
    ∀ off ∈ [0x00, 0x04, 0x08, 0x0C, 0x24, 0x10, 0x14, 0x3C],
      let s := withTurn held (.read off 4)
      s.params.Legal ∧ s.busy = true ∧ s.OutOk ∧ s.turns = .read off 4 :: [] := by decide +kernel

theorem witness_ReservedOffsetsReadZeroAndIgnoreWrites :
    ∀ off ∈ [0x40, 0x80, 0xFC], (0x40 ≤ off ∧ off ≤ 0xFC ∧ off % 4 = 0) ∧
      (withTurn held (.read off 4)).turns = .read off 4 :: [] ∧ (withTurn held (.write off 4 5)).turns = .write off 4 5 :: [] := by
  decide +kernel

theorem witness_UnadmittedAccessIsRefused :
    ∀ a ∈ [(0x20, 1), (0x22, 4), (0x100, 4)], (a.2 ≠ 4 ∨ a.1 % 4 ≠ 0 ∨ 0x100 ≤ a.1) ∧
      (withTurn clean (.read a.1 a.2)).turns = .read a.1 a.2 :: [] ∧
      (withTurn clean (.write a.1 a.2 0)).turns = .write a.1 a.2 0 :: [] := by decide +kernel

theorem witness_ResetReplacesTheWholeState : (withTurn held .reset).turns = .reset :: [] := by decide +kernel

theorem witness_CountFollowsItsRule :
    p5.phase ≠ .idle ∧ (counted.phase = .idle ∧ counted.params.symCount ≤ 4) ∧
    (counted.phase = .idle ∧ 3 < counted.params.symCount ∧ counted.total ≠ counted.params.freqMax ∧ counted.FreqOk) ∧
    (let s := { counted with total := 2 ^ 32 - 1 }
     s.phase = .idle ∧ 3 < s.params.symCount ∧ s.total = s.params.freqMax) := by
  refine ⟨by decide +kernel, by decide +kernel, by decide +kernel, by decide +kernel⟩

theorem witness_QFreqFollowsItsRule : p5.params.symCount ≤ 4 ∧ 3 < p5.params.symCount := by decide +kernel

theorem witness_BuildFollowsItsRule :
    p5.phase ≠ .idle ∧ (clean.phase = .idle ∧ clean.arity.toNat < 2) ∧
    (let s := clean.setArity 11
     s.phase = .idle ∧ 2 ≤ s.arity.toNat ∧ s.params.nMax < s.arity.toNat) ∧
    (let s := clean.setArity 10
     s.phase = .idle ∧ 2 ≤ s.arity.toNat ∧ s.arity.toNat ≤ s.params.nMax ∧ s.kcount = 0) ∧
    (counted.phase = .idle ∧ 2 ≤ counted.arity.toNat ∧ counted.arity.toNat ≤ counted.params.nMax ∧ counted.kcount ≠ 0) := by
  decide +kernel

theorem witness_QNodeFollowsItsRule :
    clean.phase ≠ .built ∧ (v10.phase = .built ∧ v10.nodeCount.toNat ≤ 7) ∧ 6 < v10.nodeCount.toNat ∧
    v10.nodes[0]? = some (.leaf 0 1) ∧ v10.nodes[4]? = some .dummy ∧ v10.nodes[6]? = some (.internal 4 [2, 3, 5]) := by
  decide +kernel

theorem witness_QChildFollowsItsRule :
    clean.phase ≠ .built ∧ (v10.phase = .built ∧ v10.nodeCount.toNat ≤ 7) ∧ 6 < v10.nodeCount.toNat ∧
    (v10.nodes[4]? = some .dummy ∧ Node.dummy.kindCode ≠ 3) ∧
    (v10.nodes[6]? = some (.internal 4 [2, 3, 5]) ∧ v10.treeArity.toNat ≤ 3 ∧ 2 < v10.treeArity.toNat ∧
      (Node.internal 4 [2, 3, 5]).kindCode = 3 ∧ (Node.internal 4 [2, 3, 5]).children[2]? = some 5) := by decide +kernel

theorem witness_EncSymFollowsItsRule :
    clean.phase ≠ .built ∧ (p5.phase = .built ∧ p5.params.symCount ≤ 4) ∧
    (3 < p5.params.symCount ∧ p5.codeAt 3 = none) ∧
    (held.phase = .built ∧ 1 < held.params.symCount ∧ held.codeAt 1 = some [1, 1] ∧ ¬ 2 ≤ held.params.outDepth - held.out.length) ∧
    (held.codeAt 2 = some [0] ∧ 1 ≤ held.params.outDepth - held.out.length) := by decide +kernel

theorem witness_QCodeFollowsItsRule :
    clean.phase ≠ .built ∧ (p5.phase = .built ∧ p5.params.symCount ≤ 4) ∧ (3 < p5.params.symCount ∧ p5.codeAt 3 = none) ∧
    p5.codeAt 0 = some [1, 0] := by decide +kernel

theorem witness_DecStartFollowsItsRule : clean.phase ≠ .built ∧ p5.phase = .built := by decide +kernel

/-- One state for each clause of R251, the leaf root and each kind of child among them. -/
theorem witness_DecDigitFollowsItsRule :
    clean.phase ≠ .built ∧ (p5.phase = .built ∧ p5.decState = .idle) ∧
    (let s := after [.decDigit 2] session
     s.phase = .built ∧ s.decState = .aborted) ∧
    (session.phase = .built ∧ session.decState = .active ∧ session.treeArity.toNat ≤ 2 ∧ 1 < session.treeArity.toNat) ∧
    (let s := after [.decStart] single
     s.phase = .built ∧ s.decState = .active ∧ 2 < s.treeArity.toNat ∧ s.nodes[s.cursor.toNat]? = some (.leaf 1 2) ∧
       s.out.length < s.params.outDepth) ∧
    (let s := after [.decStart, .decDigit 0, .decDigit 0, .decDigit 0] single
     s.nodes[s.cursor.toNat]? = some (.leaf 1 2) ∧ ¬ s.out.length < s.params.outDepth) ∧
    (session.nodes[session.cursor.toNat]? = some (.internal 4 [2, 3]) ∧ session.nodes[3]? = some (.internal 2 [0, 1]) ∧
      session.nodes[2]? = some (.leaf 2 2) ∧ session.out.length < session.params.outDepth) ∧
    (let s := after [.decStart] full
     s.nodes[s.cursor.toNat]? = some (.internal 4 [2, 3]) ∧ ¬ s.out.length < s.params.outDepth) ∧
    (let s := after [.decStart, .decDigit 2] v10
     s.nodes[s.cursor.toNat]? = some (.internal 2 [4, 0, 1]) ∧ s.nodes[4]? = some .dummy ∧ 0 < s.treeArity.toNat) := by
  decide +kernel

theorem witness_DecEndFollowsItsRule :
    clean.phase ≠ .built ∧ (p5.phase = .built ∧ p5.decState = .idle) ∧ (after [.decDigit 2] session).decState = .aborted ∧
    (let s := after [.decDigit 1] session
     s.decState = .active ∧ s.cursor ≠ s.root) ∧
    (session.decState = .active ∧ session.cursor = session.root) := by decide +kernel

/-- States no run reaches: a node count beyond the nodes, a cursor there, children missing. -/
theorem witness_ValuelessNodeReadsFault :
    (let s := { p5 with nodeCount := 6 }
     s.phase = .built ∧ 5 < s.nodeCount.toNat ∧ s.nodes[5]? = none) ∧
    (let s := { p5 with treeArity := 3 }
     4 < s.nodeCount.toNat ∧ s.nodes[4]? = some (.internal 4 [2, 3]) ∧ 2 < s.treeArity.toNat ∧
       (Node.internal 4 [2, 3]).children[2]? = none) ∧
    (let s := { session with cursor := 5 }
     s.decState = .active ∧ 1 < s.treeArity.toNat ∧ s.nodes[s.cursor.toNat]? = none) ∧
    (let s := { after [.decStart] v10 with cursor := 4 }
     s.nodes[s.cursor.toNat]? = some .dummy ∧ Node.dummy.kindCode ≠ 1 ∧ Node.dummy.children[0]? = none) ∧
    (let s := { session with nodes := [.leaf 0 1, .leaf 1 1, .leaf 2 2, .internal 2 [0, 9]], cursor := 3 }
     s.nodes[s.cursor.toNat]? = some (.internal 2 [0, 9]) ∧ (Node.internal 2 [0, 9]).children[1]? = some 9 ∧ s.nodes[9]? = none) := by
  decide +kernel

theorem witness_HoldLastsUntilOutIsRead :
    held.hold = true ∧ held.nextTurn = .engine ∧ isNext (takeTurn (.write 0x0C 4 5) held) = true ∧
    isNext (takeTurn (.read 0x24 4) held) = true ∧ isNext (takeTurn .engine held) = true := by decide +kernel

theorem witness_DrainedOutputEndsEveryHold : p5.Inv ∧ p5.out = [] := ⟨p5_inv, by decide +kernel⟩

/-- One state and command for each of the statements about who writes what. -/
theorem witness_OnlyBuildAndClearChangePhase :
    (∃ t, exec .build counted = .next t ∧ t.phase = .built) ∧ (∃ t, exec .clear p5 = .next t ∧ t.phase = .idle) :=
  ⟨⟨_, next_of_isNext (by decide +kernel), by decide +kernel⟩, ⟨_, next_of_isNext (by decide +kernel), by decide +kernel⟩⟩

theorem witness_OnlyQueriesWriteResults :
    (∃ t, exec .clear p5 = .next t) ∧ (∃ t, exec (.qFreq 2) p5 = .next t ∧ Instr.qFreq 2 ≠ .clear ∧ t.res0 ≠ p5.res0) :=
  ⟨⟨_, next_of_isNext (by decide +kernel)⟩, ⟨_, next_of_isNext (by decide +kernel), by decide +kernel⟩⟩

theorem witness_OnlyEncodeAndDecodeAppendToOut :
    (∃ t, exec .clear full = .next t) ∧ (∃ t, exec (.encSym 2) p5 = .next t ∧ Instr.encSym 2 ≠ .clear ∧ t.out ≠ p5.out) :=
  ⟨⟨_, next_of_isNext (by decide +kernel)⟩, ⟨_, next_of_isNext (by decide +kernel), by decide +kernel⟩⟩

theorem witness_BuiltTreeIsImmutable :
    ∃ t, exec (.count 1) p5 = .next t ∧ p5.phase = .built ∧ Instr.count 1 ≠ .clear :=
  ⟨_, next_of_isNext (by decide +kernel), by decide +kernel⟩

theorem witness_OtherRegistersHaveTheirOneWriter :
    (∃ t, exec (.setArity 9) p5 = .next t ∧ Instr.setArity 9 ≠ .errAck ∧ Instr.setArity 9 ≠ .clear) ∧
    (∃ t, exec .build counted = .next t ∧ t.cursor ≠ counted.cursor) :=
  ⟨⟨_, next_of_isNext (by decide +kernel), by decide +kernel⟩, ⟨_, next_of_isNext (by decide +kernel), by decide +kernel⟩⟩

theorem witness_OverrunDuringErrAckIsCleared :
    let s := { latched .errAck clean with turns := [.write 0x0C 4 5, .engine] }
    s.busy = true ∧ s.cmdl = .word (encode .errAck) ∧ s.turns = .write 0x0C 4 5 :: .engine :: [] := by decide +kernel

theorem witness_CountsCommute :
    counted.Inv ∧ (∃ t, execAll [.count 3, .count 0] counted = .next t) ∧ counted.phase = .idle ∧
    counted.total + 2 ≤ counted.params.freqMax ∧ 3 < counted.params.symCount ∧ 0 < counted.params.symCount :=
  ⟨counted_inv, ⟨_, next_of_isNext (by decide +kernel)⟩, by decide +kernel⟩

theorem witness_NoFrequencyExceedsTotal : (counted.Inv ∧ counted.phase = .idle) ∧ (v10.Inv ∧ v10.phase = .built) :=
  ⟨⟨counted_inv, by decide +kernel⟩, ⟨v10_inv, by decide +kernel⟩⟩

theorem witness_PaddingMakesTheMergeExact : (2 ≤ 2 ∧ 2 ≤ 2) ∧ padCount 4 3 = 1 ∧ padCount 2 10 = 8 := by decide

theorem witness_QueueReleasesTheSmallestKey :
    let q : List PQKey := [⟨1, 1⟩, ⟨1, 2⟩, ⟨3, 0⟩]
    q.Pairwise (fun a b => a.lt b = true) ∧ ∀ x ∈ q, x.node ≠ (⟨1, 3⟩ : PQKey).node := by decide

theorem witness_MergeStopsWithOneRoot :
    let nodes : List Node := [.leaf 0 1, .leaf 1 1, .leaf 2 1, .leaf 3 1, .dummy]
    2 ≤ 3 ∧ 2 ≤ nodes.length ∧ (nodes.length - 1) % (3 - 1) = 0 := by decide

theorem witness_SingleSymbolTreeIsOneLeaf :
    oneSymbol.Inv ∧ oneSymbol.phase = .idle ∧ 2 ≤ oneSymbol.arity.toNat ∧ oneSymbol.arity.toNat ≤ oneSymbol.params.nMax ∧
    oneSymbol.kcount = 1 ∧ oneSymbol.freqAt 3 = 1 := ⟨oneSymbol_inv, by decide +kernel⟩

theorem witness_BuildMakesATreeOfTheCounts :
    counted.Inv ∧ counted.phase = .idle ∧ 2 ≤ counted.arity.toNat ∧ counted.arity.toNat ≤ counted.params.nMax ∧
    counted.kcount ≠ 0 := ⟨counted_inv, by decide +kernel⟩

theorem witness_CodedSymbolsAreTheCountedOnes :
    (p5.Inv ∧ p5.phase = .built ∧ (p5.codeAt 2).isSome = true ∧ p5.codeAt 3 = none) ∧ (counted.Inv ∧ counted.phase = .idle) :=
  ⟨⟨p5_inv, by decide +kernel⟩, ⟨counted_inv, by decide +kernel⟩⟩

theorem witness_CodesArePrefixFree :
    p5.Inv ∧ p5.phase = .built ∧ p5.codeAt 0 = some [1, 0] ∧ p5.codeAt 1 = some [1, 1] ∧ 0 ≠ 1 := ⟨p5_inv, by decide +kernel⟩

theorem witness_CodesLeadToTheirLeaf :
    (v10.Inv ∧ v10.phase = .built ∧ v10.codeAt 0 = some [2, 1] ∧ v10.kcount ≠ 1) ∧
    (single.Inv ∧ single.phase = .built ∧ single.codeAt 1 = some [0] ∧ single.kcount = 1) :=
  ⟨⟨v10_inv, by decide +kernel⟩, ⟨single_inv, by decide +kernel⟩⟩

theorem witness_CodeLengthIsBounded : p5.Inv ∧ p5.phase = .built ∧ p5.codeAt 0 = some [1, 0] := ⟨p5_inv, by decide +kernel⟩

theorem witness_EncodingATextConcatenatesItsCodes :
    p5.Inv ∧ p5.phase = .built ∧ [2, 0] ≠ ([] : List Nat) ∧ (∀ x ∈ [2, 0], p5.freqAt x ≠ 0) ∧
    p5.out.length + (p5.textDigits [2, 0]).length ≤ p5.params.outDepth := ⟨p5_inv, by decide +kernel⟩

theorem witness_DecodingTheDigitsGivesTheTextBack :
    (p5.Inv ∧ p5.phase = .built ∧ (∀ x ∈ [2, 0, 1], p5.freqAt x ≠ 0) ∧ p5.out.length + 3 ≤ p5.params.outDepth) ∧
    (single.Inv ∧ single.phase = .built ∧ (∀ x ∈ [1, 1], single.freqAt x ≠ 0) ∧ single.out.length + 2 ≤ single.params.outDepth) :=
  ⟨⟨p5_inv, by decide +kernel⟩, ⟨single_inv, by decide +kernel⟩⟩

/-- The invariant's step statements, at states of both phases. -/
theorem witness_EveryStepKeepsTheInvariant :
    (full.Inv ∧ ∃ t, step full = .next t) ∧ (counted.Inv ∧ ∃ t, step counted = .next t) :=
  ⟨⟨full_inv, _, next_of_isNext (by decide +kernel)⟩, ⟨counted_inv, _, next_of_isNext (by decide +kernel)⟩⟩

/-- A refused step, of an access R81 does not admit. -/
theorem witness_NoStepFaultsUnderTheInvariant :
    let s := withTurn full (.read 0x21 4)
    s.Inv ∧ step s = .refused .accessNotAdmitted :=
  ⟨⟨by decide +kernel, by decide +kernel, by decide +kernel, by decide +kernel, by decide +kernel, by decide +kernel⟩, rfl⟩

end Sys2Proof.Tests
end

section
/-! PROOFS of the family 00_scope.md: the bound on code lengths (R11, R195) and the one writer of each register (R32 to R47).
The bound on a code: each of its digits is a step from a child to a parent of larger index, and every parent is one of the
nodes above the leaves, of which the padding rule leaves at most KCOUNT - 1. -/

namespace Sys2Proof.Machine

/-! ### The sizes of R11 and R185 -/

/-- R10, R11: every node index of a legal configuration fits the 18-bit field. -/
theorem nodeMax_lt_of_legal {p : Params} (h : p.Legal) : p.nodeMax < 2 ^ 18 := by
  obtain ⟨⟨-, hsymw⟩, ⟨-, hnMax⟩, -⟩ := h
  have hsym : p.symCount ≤ 2 ^ 16 := Nat.pow_le_pow_right (by decide) hsymw
  simp only [Params.nodeMax, Params.leafMax]
  omega

/-- R185: fewer than n - 1 dummies are added. -/
theorem padCount_le (k n : Nat) : padCount k n ≤ n - 2 := by
  simp only [padCount]
  split <;> omega

/-- R185, R187: with p ≤ n - 2 dummies, k leaves are merged in at most k - 1 rounds. -/
theorem mergeRounds_le {k n p : Nat} (hk : 1 ≤ k) (hn : 2 ≤ n) (hp : p ≤ n - 2) (hone : k = 1 → p = 0) :
    (k + p - 1) / (n - 1) ≤ k - 1 := by
  refine Nat.div_le_of_le_mul ?_
  obtain ⟨a, rfl⟩ := Nat.exists_eq_add_of_le hk
  obtain ⟨b, rfl⟩ := Nat.exists_eq_add_of_le hn
  cases a with
  | zero => simp [hone rfl]
  | succ a =>
    have hprod : (2 + b - 1) * (1 + (a + 1) - 1) = a * b + a + b + 1 := by
      rw [show 2 + b - 1 = b + 1 by omega, show 1 + (a + 1) - 1 = a + 1 by omega]
      ring
    have := Nat.zero_le (a * b)
    omega

/-- R36: no more symbols are present than there are symbol values. -/
theorem State.FreqOk.kcount_le_symCount {s : State} (h : s.FreqOk) : s.kcount.toNat ≤ s.params.symCount := by
  obtain ⟨-, -, hk, -⟩ := h
  simpa [hk] using List.length_filter_le (fun x => decide (s.freqAt x ≠ 0)) (List.range s.params.symCount)

/-! ### The nodes of a tree (R39, R41) -/

/-- R184: the leaves BUILD starts from have no children. -/
theorem children_eq_nil_of_mem_enumerateLeaves {s : State} {e : Node} (h : e ∈ enumerateLeaves s) : e.children = [] := by
  obtain ⟨x, -, hx⟩ := List.mem_filterMap.mp h
  split at hx
  · cases hx; rfl
  · cases hx

section Tree
variable {s : State} (h : s.TreeOk)
include h

/-- R40: the dummies are at most TREE_ARITY - 2, and none where one symbol is present. -/
theorem State.TreeOk.pad_le : s.pad.toNat ≤ s.treeArity.toNat - 2 := by
  obtain ⟨-, -, -, -, hpad, -⟩ := h
  have := padCount_le s.kcount.toNat s.treeArity.toNat
  split at hpad <;> omega

/-- R40: LEAF_COUNT fits LEAF_MAX. -/
theorem State.TreeOk.leafCount_le_leafMax (hk : s.kcount.toNat ≤ s.params.symCount) :
    s.leafCount.toNat ≤ s.params.leafMax := by
  have hpad := h.pad_le
  obtain ⟨⟨hn, hmax⟩, -, -, -, -, hleaf, -⟩ := h
  simp only [Params.leafMax]
  omega

/-- R187, R188: above the leaves stand at most KCOUNT - 1 nodes, one for each merge round. -/
theorem State.TreeOk.internalCount_le : s.nodes.length - s.leafCount.toNat ≤ s.kcount.toNat - 1 := by
  have hp := h.pad_le
  obtain ⟨⟨hn, -⟩, hk, ⟨hlen, -⟩, -, hpad, hleaf, -, hcount, -⟩ := h
  have hrounds : (s.kcount.toNat + s.pad.toNat - 1) / (s.treeArity.toNat - 1) ≤ s.kcount.toNat - 1 :=
    mergeRounds_le hk hn hp fun hone => by simpa [hone] using hpad
  rw [hlen, hcount, hleaf]
  omega

/-- R41: the nodes below LEAF_COUNT, leaves and dummies, have no children. -/
theorem State.TreeOk.children_eq_nil {q : Nat} {e : Node} (he : s.nodes[q]? = some e) (hq : q < s.leafCount.toNat) :
    e.children = [] := by
  obtain ⟨-, -, -, -, -, hleaf, -, -, hleaves, hdummies, -⟩ := h
  by_cases hk : q < s.kcount.toNat
  · refine children_eq_nil_of_mem_enumerateLeaves (s := s) (hleaves ▸ List.mem_of_getElem? (i := q) ?_)
    rw [List.getElem?_take_of_lt hk, he]
  · have hd : e ∈ List.replicate s.pad.toNat Node.dummy := by
      refine hdummies ▸ List.mem_of_getElem? (i := q - s.kcount.toNat) ?_
      rw [List.getElem?_take_of_lt (by omega), List.getElem?_drop, Nat.add_sub_cancel' (Nat.not_lt.mp hk), he]
    rw [List.eq_of_mem_replicate hd]
    rfl

/-- R41(d): a node with a child stands above the leaves, and above that child. -/
theorem State.TreeOk.parent_index {q : Nat} {e : Node} {c : NodeIdx} (he : s.nodes[q]? = some e) (hc : c ∈ e.children) :
    s.leafCount.toNat ≤ q ∧ c.toNat < q := by
  have hq : s.leafCount.toNat ≤ q := by
    by_contra hlt
    rw [h.children_eq_nil he (Nat.not_le.mp hlt)] at hc
    cases hc
  obtain ⟨-, -, -, -, -, -, -, -, -, -, hinternal, -⟩ := h
  have hmem : (e, q) ∈ (s.nodes.drop s.leafCount.toNat).zipIdx s.leafCount.toNat :=
    List.mem_zipIdx_iff_le_and_getElem?_sub.mpr ⟨hq, by rw [List.getElem?_drop, Nat.add_sub_cancel' hq, he]⟩
  obtain ⟨-, -, hbelow, -⟩ := hinternal _ hmem
  exact ⟨hq, by simpa using List.all_eq_true.mp hbelow c hc⟩

end Tree

/-! ### Codes (R193 to R195) -/

/-- R193: the parent found is an entry of the node memory that has the node as a child. -/
theorem parentOf_eq_some {nodes : List Node} {e q i : Nat} (h : parentOf nodes e = some (q, i)) :
    ∃ x, nodes[q]? = some x ∧ BitVec.ofNat 18 e ∈ x.children := by
  obtain ⟨⟨x, j⟩, hx, hfound⟩ := List.exists_of_findSome?_eq_some h
  obtain ⟨i', hi', hpair⟩ := Option.map_eq_some_iff.mp hfound
  cases hpair
  exact ⟨x, List.mem_zipIdx_iff_getElem?.mp hx, List.isSome_idxOf?.mp (by rw [hi']; rfl)⟩

/-- R193: a code has a digit at most for each node above both its own node and the leaves. -/
theorem State.TreeOk.codeOf_length_le {s : State} (h : s.TreeOk) (hlegal : s.params.Legal) (fuel e : Nat)
    (he : e < s.nodes.length) :
    (codeOf s.nodes s.root.toNat fuel e).length ≤ s.nodes.length - max (e + 1) s.leafCount.toNat := by
  induction fuel generalizing e with
  | zero => exact Nat.zero_le _
  | succ fuel ih =>
    rw [codeOf]
    split
    · exact Nat.zero_le _
    · split
      · exact Nat.zero_le _
      · rename_i q i hparent
        obtain ⟨x, hx, hchild⟩ := parentOf_eq_some hparent
        obtain ⟨hleaf, hlt⟩ := h.parent_index hx hchild
        have hq : q < s.nodes.length := (List.getElem?_eq_some_iff.mp hx).1
        have hfits : e < 2 ^ 18 := by
          obtain ⟨-, -, ⟨hlen, hmax⟩, -⟩ := h
          have := nodeMax_lt_of_legal hlegal
          omega
        rw [BitVec.toNat_ofNat, Nat.mod_eq_of_lt hfits] at hlt
        have := ih q hq
        rw [List.length_append, List.length_singleton]
        omega

/-- R194: a leaf's code is its path, or the one digit [0] where the path is empty. -/
theorem leafCode_length (nodes : List Node) (root e : Nat) :
    (leafCode nodes root e).length = max 1 (codeOf nodes root nodes.length e).length := by
  unfold leafCode
  split
  · simp [*]
  · simp [*]

/-- R195: every code in a generated table was in the table before, or is the code of a leaf of that symbol. -/
theorem read_generateCodes {nodes : List Node} {root : Nat} {table : Memory (List Digit)} {x : Nat} {c : List Digit}
    (h : (generateCodes nodes root table).read x = some c) :
    table.read x = some c ∨ ∃ e f, nodes[e]? = some (.leaf x f) ∧ c = leafCode nodes root e := by
  unfold generateCodes at h
  refine List.foldlRecOn (motive := fun t : Memory (List Digit) => t.read x = some c → _ ∨ _) _ _ .inl ?_ h
  rintro t ih ⟨node, e⟩ hnode hread
  cases node with
  | leaf sym f =>
    rw [Memory.read_write] at hread
    split at hread
    · subst_vars
      exact .inr ⟨e, f, List.mem_zipIdx_iff_getElem?.mp hnode, (Option.some.inj hread).symm⟩
    · exact ih hread
  | dummy => exact ih hread
  | internal f children => exact ih hread

/-- Settles O55: the bound on the depth of a leaf, for every entry of the code table. -/
theorem codeLengthIsBounded : Obligations.CodeLengthIsBounded := by
  unfold Obligations.CodeLengthIsBounded
  rintro s ⟨hlegal, hfreq, -, -, -, hbuilt⟩ hphase
  obtain ⟨htree, hcodes, -⟩ := hbuilt hphase
  have hk := hfreq.kcount_le_symCount
  refine ⟨fun x c hc => ?_, htree.leafCount_le_leafMax hk, ?_⟩
  · rw [State.codeAt, hcodes] at hc
    obtain hnone | ⟨e, f, he, rfl⟩ := read_generateCodes hc
    · simp at hnone
    · have hdepth := htree.codeOf_length_le hlegal s.nodes.length e (List.getElem?_eq_some_iff.mp he).1
      have hrounds := htree.internalCount_le
      simp only [leafCode_length, Params.codeMax]
      omega
  · obtain ⟨-, -, ⟨hlen, hmax⟩, -⟩ := htree
    exact hlen ▸ hmax

/-! ### What a command writes (R32 to R52) -/

/-- The writes a command can have made when its pseudocode has run to its end. -/
inductive SuccessWrites (s : State) : Instr → State → Prop where
  | nop : SuccessWrites s .nop s
  | clear : SuccessWrites s .clear s.clear
  | setArity (n : Nat) : SuccessWrites s (.setArity n) (s.setArity n)
  | count (x : Nat) : SuccessWrites s (.count x) (s.countSym x)
  | build : SuccessWrites s .build (s.commit s.buildResult)
  | encSym (x : Nat) (es : List OutEntry) : SuccessWrites s (.encSym x) (s.push es)
  | decStart : SuccessWrites s .decStart (s.setDecoder .active s.root)
  | decDigitMove (d : Nat) (c : NodeIdx) : SuccessWrites s (.decDigit d) (s.setDecoder s.decState c)
  | decDigitEmit (d : Nat) (e : OutEntry) (c : NodeIdx) :
    SuccessWrites s (.decDigit d) ((s.push [e]).setDecoder s.decState c)
  | decEnd : SuccessWrites s .decEnd (s.setDecoder .idle s.cursor)
  | errAck : SuccessWrites s .errAck s.ackErrors
  | qFreq (x : Nat) (r0 r1 : Word) : SuccessWrites s (.qFreq x) (s.setRes r0 r1)
  | qCode (x : Nat) (r0 r1 : Word) : SuccessWrites s (.qCode x) (s.setRes r0 r1)
  | qNode (x : Nat) (r0 r1 : Word) : SuccessWrites s (.qNode x) (s.setRes r0 r1)
  | qChild (x c : Nat) (r0 r1 : Word) : SuccessWrites s (.qChild x c) (s.setRes r0 r1)

/-- The writes a command can have made when it raises: none, or the end of a decode session (R251, R252). -/
inductive RaiseWrites (s : State) : Instr → State → Prop where
  | none (i : Instr) : RaiseWrites s i s
  | decDigit (d : Nat) : RaiseWrites s (.decDigit d) (s.setDecoder .aborted s.root)
  | decEnd : RaiseWrites s .decEnd (s.setDecoder .idle s.root)

/-- The outcome of a pseudocode carries writes that the command may make. -/
def Body.WritesOf (s : State) (i : Instr) : Body → Prop
  | .done u => SuccessWrites s i u
  | .raise u _ => RaiseWrites s i u
  | .wait => True
  | .noValue _ => True

/-- The checks of the code lookup make no writes. -/
theorem withCode_writesOf {s : State} {i : Instr} {sym : Nat} {use : List Digit → Body}
    (h : ∀ code, (use code).WritesOf s i) : (withCode s sym use).WritesOf s i := by
  obtain ⟨-, hb⟩ | ⟨-, -, hb⟩ | ⟨-, -, -, hb⟩ | ⟨code, -, -, -, hb⟩ := withCode_cases s sym use
  all_goals rw [hb]
  · exact .none i
  · exact .none i
  · exact .none i
  · exact h code

/-- The checks of the node lookup make no writes. -/
theorem withNode_writesOf {s : State} {i : Instr} {node : Nat} {use : Node → Body}
    (h : ∀ e, (use e).WritesOf s i) : (withNode s node use).WritesOf s i := by
  obtain ⟨-, hb⟩ | ⟨-, -, hb⟩ | ⟨-, -, -, hb⟩ | ⟨e, -, -, -, hb⟩ := withNode_cases s node use
  all_goals rw [hb]
  · exact .none i
  · exact .none i
  · trivial
  · exact h e

theorem bodyCount_writesOf (sym : Nat) (s : State) : (bodyCount sym s).WritesOf s (.count sym) := by
  unfold bodyCount
  repeat' split
  · exact .none _
  · exact .none _
  · exact .none _
  · exact .count sym

theorem bodyBuild_writesOf (s : State) : (bodyBuild s).WritesOf s .build := by
  unfold bodyBuild
  repeat' split
  · exact .none _
  · exact .none _
  · exact .none _
  · exact .none _
  · exact .build

theorem bodyQChild_writesOf (node ci : Nat) (s : State) : (bodyQChild node ci s).WritesOf s (.qChild node ci) := by
  refine withNode_writesOf fun e => ?_
  cases e with
  | leaf sym f => exact .none _
  | dummy => exact .none _
  | internal f children =>
    dsimp only
    repeat' split
    · exact .none _
    · trivial
    · exact .qChild ..

/-- R251 at a leaf root. -/
theorem digitAtLeaf_writesOf (s : State) (sym dig : Nat) : (digitAtLeaf s sym dig).WritesOf s (.decDigit dig) := by
  unfold digitAtLeaf
  repeat' split
  · exact .decDigit dig
  · trivial
  · exact .decDigitEmit dig (OutEntry.ofSymbol sym) s.cursor

/-- R251 below an internal node. -/
theorem digitToChild_writesOf (s : State) (e : NodeIdx) (dig : Nat) : (digitToChild s e).WritesOf s (.decDigit dig) := by
  unfold digitToChild
  split
  · trivial
  · exact .decDigitMove dig e
  · unfold emitSymbol
    split
    · trivial
    · exact .decDigitEmit ..
  · exact .decDigit dig

theorem bodyDecDigit_writesOf (dig : Nat) (s : State) : (bodyDecDigit dig s).WritesOf s (.decDigit dig) := by
  unfold bodyDecDigit
  repeat' split
  · exact .none _
  · exact .none _
  · exact .none _
  · exact .decDigit dig
  · trivial
  · trivial
  · exact digitAtLeaf_writesOf ..
  · trivial
  · exact digitToChild_writesOf ..

theorem bodyDecEnd_writesOf (s : State) : (bodyDecEnd s).WritesOf s .decEnd := by
  unfold bodyDecEnd
  repeat' split
  · exact .none _
  · exact .none _
  · exact .decEnd
  · exact .decEnd
  · exact .decEnd

/-- No pseudocode makes writes other than its command's. -/
theorem commandBody_writesOf (i : Instr) (s : State) : (commandBody i s).WritesOf s i := by
  cases i with
  | nop => exact .nop
  | clear => exact .clear
  | setArity n => exact .setArity n
  | count sym => exact bodyCount_writesOf sym s
  | build => exact bodyBuild_writesOf s
  | encSym sym =>
    refine withCode_writesOf fun code => ?_
    split
    · trivial
    · exact .encSym ..
  | decStart =>
    show (bodyDecStart s).WritesOf s .decStart
    unfold bodyDecStart
    split
    · exact .none _
    · exact .decStart
  | decDigit dig => exact bodyDecDigit_writesOf dig s
  | decEnd => exact bodyDecEnd_writesOf s
  | errAck => exact .errAck
  | qFreq sym =>
    show (bodyQFreq sym s).WritesOf s (.qFreq sym)
    unfold bodyQFreq
    split
    · exact .none _
    · exact .qFreq ..
  | qCode sym => exact withCode_writesOf fun code => .qCode ..
  | qNode node => exact withNode_writesOf fun e => .qNode ..
  | qChild node ci => exact bodyQChild_writesOf node ci s

/-- Inversion of `exec` by its writes: a command succeeds, fails, or is held. -/
theorem exec_next_writes {i : Instr} {s t : State} (h : exec i s = .next t) :
    (∃ u, SuccessWrites s i u ∧ t = u.complete 0 0) ∨ (∃ u e, RaiseWrites s i u ∧ t = u.raise e) ∨ t = s := by
  have hw := commandBody_writesOf i s
  obtain ⟨u, hb, ht⟩ | ⟨u, e, hb, ht⟩ | ⟨-, ht⟩ := exec_next h
  · rw [hb] at hw
    exact .inl ⟨u, hw, ht⟩
  · rw [hb] at hw
    exact .inr (.inl ⟨u, e, hw, ht⟩)
  · exact .inr (.inr ht)

/-- Settles O41: each of a command's possible writes leaves the registers of the others alone. -/
theorem otherRegistersHaveTheirOneWriter : Obligations.OtherRegistersHaveTheirOneWriter := by
  unfold Obligations.OtherRegistersHaveTheirOneWriter
  intro i s t h
  obtain ⟨u, hdone, rfl⟩ | ⟨u, e, hraise, rfl⟩ | rfl := exec_next_writes h
  · cases hdone <;> simp
  · cases hraise <;> simp
  · simp

end Sys2Proof.Machine
end

section
/-! PROOFS of the family 10_state.md, first part: the tree that BUILD makes (R41, R182 to R195). Two facts hold through the rounds
of a merge: its sizes, which say how many rounds are left, and that its nodes and queue are a forest in which every node has
one parent or waits in the queue. With no round left the queue holds the root alone, and the forest is R41's tree, which BUILD
commits in the second part. -/

namespace Sys2Proof.Machine

/-- A number that fits a field is read back from it. -/
theorem toNat_ofNat_of_lt {w n : Nat} (h : n < 2 ^ w) : (BitVec.ofNat w n).toNat = n := by
  rw [BitVec.toNat_ofNat, Nat.mod_eq_of_lt h]

/-! ### The merge (R182, R186 to R188) -/

/-- R182: inserting a key adds that key to the set. -/
theorem pqInsert_perm (k : PQKey) (q : List PQKey) : (pqInsert k q).Perm (k :: q) := by
  induction q with
  | nil => exact .refl _
  | cons x rest ih =>
    unfold pqInsert
    split
    · exact .refl _
    · exact (ih.cons x).trans (.swap k x rest)

/-- R187: the queue of the given keys holds exactly those keys. -/
theorem pqOf_perm (keys : List PQKey) : (pqOf keys).Perm keys := by
  induction keys with
  | nil => exact .refl _
  | cons k rest ih => exact (pqInsert_perm k _).trans (ih.cons k)

theorem nodeKeys_map_node (nodes : List Node) : (nodeKeys nodes).map (·.node) = List.range nodes.length := by
  rw [nodeKeys, List.map_map]
  exact (List.zipIdx_map_snd 0 nodes).trans List.range_eq_range'.symm

/-- R182: the key of a node is made of its NFREQ and its index. -/
theorem mem_nodeKeys {nodes : List Node} {k : PQKey} :
    k ∈ nodeKeys nodes ↔ (nodes[k.node]?).map Node.nfreq = some k.freq := by
  simp only [nodeKeys, List.mem_map, Option.map_eq_some_iff]
  constructor
  · rintro ⟨⟨e, i⟩, he, rfl⟩
    exact ⟨e, List.mem_zipIdx_iff_getElem?.mp he, rfl⟩
  · rintro ⟨e, he, hf⟩
    exact ⟨(e, k.node), List.mem_zipIdx_iff_getElem?.mpr he, by simp [hf]⟩

/-- How far a merge of `start` at arity n has come with `left` rounds to go: every round takes n - 1 elements off the queue,
adds one node and leaves that node in the queue. -/
structure MergeShape (n : Nat) (start : List Node) (left : Nat) (a : Arena) : Prop where
  queue : a.pq.length = left * (n - 1) + 1
  kept : start <+: a.nodes
  size : a.nodes.length + left = start.length + (start.length - 1) / (n - 1)
  newest : ∃ k ∈ a.pq, k.node + 1 = a.nodes.length

/-- R187: the queue of a merge that starts, with (m - 1) / (n - 1) rounds to go. -/
theorem mergeShape_start {n : Nat} {start : List Node} (hne : start ≠ [])
    (hmod : (start.length - 1) % (n - 1) = 0) :
    MergeShape n start ((start.length - 1) / (n - 1)) ⟨start, pqOf (nodeKeys start)⟩ where
  queue := by
    have hlen : (nodeKeys start).length = start.length := by simp [nodeKeys]
    rw [(pqOf_perm _).length_eq, hlen, Nat.div_mul_cancel (Nat.dvd_of_mod_eq_zero hmod)]
    have := List.length_pos_iff.mpr hne
    omega
  kept := List.prefix_refl start
  size := rfl
  newest := by
    have hpos := List.length_pos_iff.mpr hne
    have hlast : start.length - 1 ∈ (nodeKeys start).map (·.node) := by
      rw [nodeKeys_map_node]
      exact List.mem_range.mpr (by omega)
    obtain ⟨k, hk, hnode⟩ := List.mem_map.mp hlast
    exact ⟨k, (pqOf_perm _).mem_iff.mpr hk, by simp only [hnode]; omega⟩

/-- R186: a round pops n elements of a queue that has them, and one round fewer is left. -/
theorem MergeShape.round {n left : Nat} {start : List Node} {a : Arena} (hn : 2 ≤ n)
    (h : MergeShape n start (left + 1) a) : MergeShape n start left (mergeRound n a) where
  queue := by
    have hq := h.queue
    rw [Nat.succ_mul] at hq
    simp only [mergeRound, (pqInsert_perm _ _).length_eq, List.length_cons, List.length_drop]
    omega
  kept := h.kept.trans (List.prefix_append ..)
  size := by
    have := h.size
    simp only [mergeRound, List.length_append, List.length_singleton]
    omega
  newest := ⟨_, (pqInsert_perm _ _).mem_iff.mpr (List.mem_cons_self ..), by simp [mergeRound]⟩

/-- With rounds to go, the queue holds the n elements that a round pops. -/
theorem MergeShape.arity_le_queue {n left : Nat} {start : List Node} {a : Arena}
    (h : MergeShape n start (left + 1) a) : n ≤ a.pq.length := by
  have hq := h.queue
  rw [Nat.succ_mul] at hq
  omega

/-- R187: what every round keeps holds after the merge, with no round left. -/
theorem mergeLoop_shape_and {n : Nat} {start : List Node} {P : Arena → Prop} (hn : 2 ≤ n)
    (hround : ∀ left a, MergeShape n start (left + 1) a → P a → P (mergeRound n a)) (left : Nat) :
    ∀ (fuel : Nat) (a : Arena), left ≤ fuel → MergeShape n start left a → P a →
      MergeShape n start 0 (mergeLoop n fuel a) ∧ P (mergeLoop n fuel a) := by
  induction left with
  | zero =>
    intro fuel a _ h hP
    have hdone : mergeLoop n fuel a = a := by
      cases fuel with
      | zero => rfl
      | succ fuel => rw [mergeLoop, if_neg (by simp [h.queue])]
    rw [hdone]
    exact ⟨h, hP⟩
  | succ left ih =>
    intro fuel a hfuel h hP
    obtain ⟨fuel, rfl⟩ := Nat.exists_eq_add_of_le' (Nat.lt_of_lt_of_le (Nat.zero_lt_succ left) hfuel)
    have hmore : 1 < a.pq.length := Nat.lt_of_lt_of_le hn h.arity_le_queue
    rw [mergeLoop, if_pos hmore]
    exact ih fuel _ (by omega) (h.round hn) (hround left a h hP)

/-- R187: the rounds of `merge` from the queue of its leaves. -/
theorem merge_shape_and {n : Nat} {start : List Node} {P : Arena → Prop} (hn : 2 ≤ n) (hne : start ≠ [])
    (hmod : (start.length - 1) % (n - 1) = 0)
    (hround : ∀ left a, MergeShape n start (left + 1) a → P a → P (mergeRound n a))
    (hstart : P ⟨start, pqOf (nodeKeys start)⟩) : MergeShape n start 0 (merge n start) ∧ P (merge n start) :=
  mergeLoop_shape_and hn hround _ _ _ ((Nat.div_le_self ..).trans (Nat.sub_le ..)) (mergeShape_start hne hmod) hstart

/-- R188: with no round left, the queue holds the key of the last node made and nothing else. -/
theorem MergeShape.queue_eq {n : Nat} {start : List Node} {a : Arena} (h : MergeShape n start 0 a) :
    a.pq.map (·.node) = [a.nodes.length - 1] := by
  obtain ⟨k, hk, hnode⟩ := h.newest
  obtain ⟨x, hx⟩ := List.length_eq_one_iff.mp (by simpa using h.queue)
  rw [hx, List.mem_singleton] at hk
  simp [hx, ← hk, ← hnode]

/-! ### The tree that the rounds make (R41) -/

/-- A node keeps its NFREQ when nodes are added. -/
theorem nfreqAt_append {nodes : List Node} {c : NodeIdx} (more : List Node) (h : c.toNat < nodes.length) :
    nfreqAt (nodes ++ more) c = nfreqAt nodes c := by
  rw [nfreqAt, nfreqAt, List.getElem?_append_left h]

/-- An internal node stays one of the tree when nodes are added. -/
theorem InternalOk.append {nodes : List Node} {n : Nat} {e : Node × Nat} (more : List Node) (h : InternalOk nodes n e)
    (he : e.2 ≤ nodes.length) : InternalOk (nodes ++ more) n e := by
  obtain ⟨hkind, hlen, hbelow, hsum⟩ := h
  refine ⟨hkind, hlen, hbelow, hsum.trans (congrArg List.sum (List.map_congr_left fun c hc => ?_))⟩
  have := List.all_eq_true.mp hbelow c hc
  exact (nfreqAt_append more (Nat.lt_of_lt_of_le (by simpa using this) he)).symm

/-- The node memory and queue of a merge make a forest: each key is that of its node, the nodes past the leaves are
internal nodes, and every node is the child of one node or stands in the queue. -/
structure MergeForest (n : Nat) (start : List Node) (a : Arena) : Prop where
  key : ∀ k ∈ a.pq, k.node < a.nodes.length ∧ nfreqAt a.nodes (BitVec.ofNat 18 k.node) = k.freq
  internal : ∀ e ∈ (a.nodes.drop start.length).zipIdx start.length, InternalOk a.nodes n e
  once : (a.nodes.flatMap Node.children ++ a.pq.map fun k => BitVec.ofNat 18 k.node).Perm
    ((List.range a.nodes.length).map (BitVec.ofNat 18))

/-- R187: at the start every node stands in the queue. -/
theorem mergeForest_start {n : Nat} {start : List Node} (hleaf : ∀ e ∈ start, e.children = [])
    (hfit : start.length < 2 ^ 18) : MergeForest n start ⟨start, pqOf (nodeKeys start)⟩ where
  key k hk := by
    obtain ⟨e, he, hf⟩ := Option.map_eq_some_iff.mp (mem_nodeKeys.mp ((pqOf_perm _).mem_iff.mp hk))
    have hlt := (List.getElem?_eq_some_iff.mp he).1
    refine ⟨hlt, ?_⟩
    rw [nfreqAt, toNat_ofNat_of_lt (hlt.trans hfit)]
    simp [he, hf]
  internal := by simp
  once := by
    rw [List.flatMap_eq_nil_iff.mpr hleaf, List.nil_append, ← nodeKeys_map_node, List.map_map]
    exact (pqOf_perm _).map _

/-- R186: the node that a round appends is the internal node of the keys it pops. -/
theorem MergeForest.parent {n : Nat} {start : List Node} {a : Arena} (h : MergeForest n start a) (hn : n ≤ a.pq.length)
    (more : List Node) : InternalOk (a.nodes ++ more) n (parentOfKeys (a.pq.take n), a.nodes.length) := by
  have hpopped : ∀ k ∈ a.pq.take n, (BitVec.ofNat 18 k.node).toNat < a.nodes.length ∧
      nfreqAt (a.nodes ++ more) (BitVec.ofNat 18 k.node) = k.freq := by
    intro k hk
    obtain ⟨hlt, hf⟩ := h.key k (List.mem_of_mem_take hk)
    have hidx : (BitVec.ofNat 18 k.node).toNat < a.nodes.length :=
      Nat.lt_of_le_of_lt (by rw [BitVec.toNat_ofNat]; exact Nat.mod_le ..) hlt
    exact ⟨hidx, (nfreqAt_append more hidx).trans hf⟩
  refine ⟨rfl, by simp [parentOfKeys, Node.children, hn], ?_, ?_⟩
  · simp only [parentOfKeys, Node.children, List.all_map, List.all_eq_true, Function.comp_apply, decide_eq_true_eq]
    exact fun k hk => (hpopped k hk).1
  · simp only [parentOfKeys, Node.children, Node.nfreq, List.map_map]
    exact congrArg List.sum (List.map_congr_left fun k hk => (hpopped k hk).2.symm)

/-- R186: a round keeps the forest, as long as the new index fits its field. -/
theorem MergeForest.round {n : Nat} {start : List Node} {a : Arena} (h : MergeForest n start a) (hn : n ≤ a.pq.length)
    (hkept : start.length ≤ a.nodes.length) (hfit : a.nodes.length < 2 ^ 18) :
    MergeForest n start (mergeRound n a) where
  key k hk := by
    have hk' := (pqInsert_perm _ _).mem_iff.mp hk
    simp only [mergeRound, List.length_append, List.length_singleton]
    obtain rfl | hk' := List.mem_cons.mp hk'
    · refine ⟨Nat.lt_succ_self _, ?_⟩
      rw [nfreqAt, toNat_ofNat_of_lt hfit]
      simp
    · obtain ⟨hlt, hf⟩ := h.key k (List.mem_of_mem_drop hk')
      refine ⟨Nat.lt_succ_of_lt hlt, (nfreqAt_append _ ?_).trans hf⟩
      rwa [toNat_ofNat_of_lt (hlt.trans hfit)]
  internal e he := by
    simp only [mergeRound, List.drop_append_of_le_length hkept, List.zipIdx_append, List.mem_append,
      List.length_drop, List.zipIdx_singleton, List.mem_singleton, Nat.add_sub_cancel' hkept] at he ⊢
    obtain he | rfl := he
    · obtain ⟨-, hlt, -⟩ := List.mem_zipIdx he
      rw [List.length_drop, Nat.add_sub_cancel' hkept] at hlt
      exact (h.internal e he).append _ hlt.le
    · exact h.parent hn _
  once := by
    have hqueue := (pqInsert_perm ⟨(parentOfKeys (a.pq.take n)).nfreq, a.nodes.length⟩ (a.pq.drop n)).map
      fun k => BitVec.ofNat 18 k.node
    have hold := h.once
    rw [← List.take_append_drop n a.pq, List.map_append] at hold
    simp only [mergeRound, List.flatMap_append, List.flatMap_singleton, List.length_append, List.length_singleton,
      List.range_succ, List.map_append, List.map_singleton]
    rw [← List.append_assoc] at hold
    exact ((hqueue.append_left _).trans List.perm_middle).trans
      ((hold.cons _).trans (List.perm_append_singleton ..).symm)

/-- R41(c): with only the root left in the queue, every other node is the child of exactly one node. -/
theorem MergeForest.count_child {n : Nat} {start : List Node} {a : Arena} (h : MergeForest n start a)
    (hroot : a.pq.map (·.node) = [a.nodes.length - 1]) (hfit : a.nodes.length ≤ 2 ^ 18) {e : Nat}
    (he : e < a.nodes.length - 1) : (a.nodes.flatMap Node.children).count (BitVec.ofNat 18 e) = 1 := by
  have hqueue : (a.pq.map fun k => BitVec.ofNat 18 k.node) = [BitVec.ofNat 18 (a.nodes.length - 1)] := by
    rw [← List.map_singleton, ← hroot, List.map_map]
    rfl
  have hrange : List.range a.nodes.length = List.range (a.nodes.length - 1) ++ [a.nodes.length - 1] := by
    rw [← List.range_succ, Nat.succ_eq_add_one, Nat.sub_add_cancel (by omega)]
  have honce := h.once
  rw [hqueue, hrange, List.map_append, List.map_singleton, List.perm_append_right_iff] at honce
  rw [honce.count_eq]
  refine List.count_eq_one_of_mem (List.nodup_range.map_on fun x hx y hy hxy => ?_)
    (List.mem_map_of_mem (List.mem_range.mpr he))
  rw [List.mem_range] at hx hy
  have := congrArg BitVec.toNat hxy
  rwa [toNat_ofNat_of_lt (by omega), toNat_ofNat_of_lt (by omega)] at this

/-- R187, R188, R192: a merge of leaves whose node indices fit their field runs all its rounds and ends in one tree. -/
theorem merge_shape_and_forest {n : Nat} {start : List Node} (hn : 2 ≤ n) (hne : start ≠ [])
    (hmod : (start.length - 1) % (n - 1) = 0) (hleaf : ∀ e ∈ start, e.children = [])
    (hfit : 2 * start.length ≤ 2 ^ 18) : MergeShape n start 0 (merge n start) ∧ MergeForest n start (merge n start) := by
  have hpos := List.length_pos_iff.mpr hne
  refine merge_shape_and hn hne hmod (fun left a hshape hforest => ?_) (mergeForest_start hleaf (by omega))
  have hsize := hshape.size
  have hrounds := Nat.div_le_self (start.length - 1) (n - 1)
  exact hforest.round hshape.arity_le_queue hshape.kept.length_le (by omega)

/-! ### The tree that BUILD makes (R184, R185, R188 to R190) -/

/-- R185: the padding makes the merge exact. -/
theorem padCount_mod {k n : Nat} (hk : 1 ≤ k) (hn : 2 ≤ n) : (k + padCount k n - 1) % (n - 1) = 0 := by
  have hdiv := Nat.div_add_mod (k - 1) (n - 1)
  have hlt : (k - 1) % (n - 1) < n - 1 := Nat.mod_lt _ (by omega)
  simp only [padCount]
  split
  · simp [*]
  · refine Nat.mod_eq_zero_of_dvd ⟨(k - 1) / (n - 1) + 1, ?_⟩
    rw [Nat.mul_succ]
    omega

/-- What BUILD makes of k leaves at arity n has the properties of R41, in the words of the tree itself. -/
structure BuiltTree (n : Nat) (leaves : List Node) (b : Built) : Prop where
  pad : b.pad = if leaves.length = 1 then 0 else padCount leaves.length n
  leafCount : b.leafCount = leaves.length + b.pad
  merges : (b.leafCount - 1) % (n - 1) = 0
  size : b.nodes.length = b.leafCount + (b.leafCount - 1) / (n - 1)
  start : leaves ++ List.replicate b.pad .dummy <+: b.nodes
  internal : ∀ e ∈ (b.nodes.drop b.leafCount).zipIdx b.leafCount, InternalOk b.nodes n e
  once : ∀ e < b.root, (b.nodes.flatMap Node.children).count (BitVec.ofNat 18 e) = 1

/-- R189: the single-symbol tree. -/
theorem buildTree_one {n : Nat} {leaves : List Node} (pq : List PQKey) (h : leaves.length = 1) :
    buildTree n leaves pq = { nodes := leaves, pq := pq, leafCount := 1, pad := 0 } := by
  simp [buildTree, h]

/-- R185, R187: the padded and merged tree. -/
theorem buildTree_many {n : Nat} {leaves : List Node} (pq : List PQKey) (h : leaves.length ≠ 1) :
    buildTree n leaves pq =
      { nodes := (merge n (leaves ++ List.replicate (padCount leaves.length n) .dummy)).nodes,
        pq := (merge n (leaves ++ List.replicate (padCount leaves.length n) .dummy)).pq,
        leafCount := leaves.length + padCount leaves.length n, pad := padCount leaves.length n } := by
  simp [buildTree, h]

/-- R184 to R189: BUILD's steps make a tree of every non-empty list of leaves. -/
theorem builtTree_buildTree {n : Nat} {leaves : List Node} (pq : List PQKey) (hn : 2 ≤ n) (hne : leaves ≠ [])
    (hleaf : ∀ e ∈ leaves, e.children = []) (hfit : 2 * (leaves.length + (n - 2)) ≤ 2 ^ 18) :
    BuiltTree n leaves (buildTree n leaves pq) := by
  by_cases hone : leaves.length = 1
  · rw [buildTree_one pq hone]
    refine ⟨by simp [hone], by simp [hone], by simp, by simp [hone], by simp, by simp [← hone], ?_⟩
    simp [Built.root, hone]
  · rw [buildTree_many pq hone]
    have hpos := List.length_pos_iff.mpr hne
    have hpad := padCount_le leaves.length n
    have hmod := padCount_mod hpos hn
    generalize hp : padCount leaves.length n = p at *
    have hlen : (leaves ++ List.replicate p Node.dummy).length = leaves.length + p := by simp
    have hchildren : ∀ e ∈ leaves ++ List.replicate p Node.dummy, e.children = [] := by
      intro e he
      obtain he | he := List.mem_append.mp he
      · exact hleaf e he
      · rw [List.eq_of_mem_replicate he]
        rfl
    obtain ⟨hshape, hforest⟩ := merge_shape_and_forest hn (by simp [hne]) (by rwa [hlen]) hchildren (by rw [hlen]; omega)
    have hsize := hshape.size
    rw [hlen, Nat.add_zero] at hsize
    have hinternal := hforest.internal
    rw [hlen] at hinternal
    have hrounds := Nat.div_le_self (leaves.length + p - 1) (n - 1)
    exact ⟨by simp [hone, hp], rfl, hmod, hsize, hshape.kept, hinternal, fun e he =>
      hforest.count_child hshape.queue_eq (by rw [hsize]; omega) he⟩

section
variable {n : Nat} {leaves : List Node} {b : Built} (h : BuiltTree n leaves b)
include h

/-- R185: the dummies of a tree are at most n - 2. -/
theorem BuiltTree.pad_le : b.pad ≤ n - 2 := by
  rw [h.pad]
  split
  · exact Nat.zero_le _
  · exact padCount_le ..

/-- R188: the tree has the leaves, and fewer internal nodes than leaves. -/
theorem BuiltTree.nodes_length_bounds (hne : leaves ≠ []) :
    b.leafCount ≤ b.nodes.length ∧ b.nodes.length ≤ 2 * b.leafCount - 1 := by
  have hpos := List.length_pos_iff.mpr hne
  have hrounds := Nat.div_le_self (b.leafCount - 1) (n - 1)
  have hleaf := h.leafCount
  rw [h.size]
  exact ⟨Nat.le_add_right .., by omega⟩

end

/-- R36, R184: BUILD starts from KCOUNT leaves. -/
theorem State.FreqOk.length_enumerateLeaves {s : State} (h : s.FreqOk) :
    (enumerateLeaves s).length = s.kcount.toNat := by
  obtain ⟨-, -, hk, -⟩ := h
  rw [hk, enumerateLeaves, List.length_filterMap_eq_countP, List.countP_eq_length_filter]
  congr 2
  funext x
  split <;> simp [*]

/-- R10, R11: a symbol has at most 16 bits. -/
theorem symCount_le_of_legal {p : Params} (h : p.Legal) : p.symCount ≤ 2 ^ 16 := by
  obtain ⟨⟨-, hsymw⟩, -⟩ := h
  exact Nat.pow_le_pow_right (by decide) hsymw

/-- R10, R11: every leaf count of a legal configuration fits its 17-bit register. -/
theorem leafMax_lt_of_legal {p : Params} (h : p.Legal) : p.leafMax < 2 ^ 17 := by
  have hsym := symCount_le_of_legal h
  obtain ⟨-, ⟨-, hnMax⟩, -⟩ := h
  simp only [Params.leafMax]
  omega

/-- R190: BUILD's steps make a tree of the state's present symbols, which LEAF_MAX and NODE_MAX bound. -/
theorem builtTree_buildResult {s : State} (hlegal : s.params.Legal) (hfreq : s.FreqOk) (hn : 2 ≤ s.arity.toNat)
    (hmax : s.arity.toNat ≤ s.params.nMax) (hk : s.kcount ≠ 0) :
    BuiltTree s.arity.toNat (enumerateLeaves s) s.buildResult ∧ s.buildResult.root + 1 = s.buildResult.nodes.length ∧
      s.buildResult.leafCount ≤ s.params.leafMax ∧ s.buildResult.nodes.length ≤ s.params.nodeMax := by
  have hlen := hfreq.length_enumerateLeaves
  have hksym := hfreq.kcount_le_symCount
  have hkpos : 0 < s.kcount.toNat := Nat.pos_of_ne_zero fun h0 => hk (BitVec.eq_of_toNat_eq h0)
  have hne : enumerateLeaves s ≠ [] := List.length_pos_iff.mp (hlen ▸ hkpos)
  have hnode := nodeMax_lt_of_legal hlegal
  simp only [Params.nodeMax, Params.leafMax] at hnode ⊢
  have htree : BuiltTree s.arity.toNat (enumerateLeaves s) s.buildResult :=
    builtTree_buildTree s.pq hn hne (fun e he => children_eq_nil_of_mem_enumerateLeaves he) (by omega)
  have hpad := htree.pad_le
  have hleaf := htree.leafCount
  obtain ⟨hlow, hhigh⟩ := htree.nodes_length_bounds hne
  exact ⟨htree, Nat.sub_add_cancel (by omega), by omega, by omega⟩

/-- R41, R191: `commit()` of BUILD's tree makes the registers agree with it: every count fits its field. -/
theorem commit_buildResult_treeOk {s : State} (hlegal : s.params.Legal) (hfreq : s.FreqOk) (hn : 2 ≤ s.arity.toNat)
    (hmax : s.arity.toNat ≤ s.params.nMax) (hk : s.kcount ≠ 0) : (s.commit s.buildResult).TreeOk := by
  have hlen := hfreq.length_enumerateLeaves
  have hkpos : 1 ≤ s.kcount.toNat := Nat.pos_of_ne_zero fun h0 => hk (BitVec.eq_of_toNat_eq h0)
  have hnode := nodeMax_lt_of_legal hlegal
  have hleafMax := leafMax_lt_of_legal hlegal
  obtain ⟨hb, hroot, hleaves, hnodes⟩ := builtTree_buildResult hlegal hfreq hn hmax hk
  generalize s.buildResult = b at *
  have hpad := hb.pad_le
  have hpadEq : (BitVec.ofNat 8 b.pad).toNat = b.pad := toNat_ofNat_of_lt (by omega)
  have hleafEq : (BitVec.ofNat 17 b.leafCount).toNat = b.leafCount := toNat_ofNat_of_lt (by omega)
  have hcountEq : (BitVec.ofNat 18 b.nodes.length).toNat = b.nodes.length := toNat_ofNat_of_lt (by omega)
  have hrootEq : (BitVec.ofNat 18 b.root).toNat = b.root := toNat_ofNat_of_lt (by omega)
  obtain ⟨rest, hrest⟩ := hb.start
  rw [List.append_assoc] at hrest
  simp only [State.TreeOk, State.commit_params, State.commit_kcount, State.commit_treeArity, State.commit_nodes,
    State.commit_nodeCount, State.commit_leafCount, State.commit_pad, State.commit_root, hpadEq, hleafEq, hcountEq,
    hrootEq, ← hlen]
  refine ⟨⟨hn, hmax⟩, hlen ▸ hkpos, ⟨trivial, hnodes⟩, hroot, hb.pad, hb.leafCount, hb.merges, hb.size, ?_, ?_,
    hb.internal, hb.once⟩
  · rw [← hrest, List.take_left]
    rfl
  · rw [← hrest, List.drop_left, List.take_left' List.length_replicate]

/-- R42, R191, R195: from a state with no codes, `commit()` leaves the code table of its tree. -/
theorem commit_codesOk {s : State} (b : Built) (hcodes : s.codes = []) (hroot : b.root < 2 ^ 18) :
    (s.commit b).CodesOk := by
  rw [State.CodesOk, State.commit_codes, State.commit_nodes, State.commit_root, toNat_ofNat_of_lt hroot,
    hcodes]

/-- R190: with its checks passed, BUILD commits its tree. -/
theorem exec_build_of_checks {s : State} (hphase : s.phase = .idle) (hn : 2 ≤ s.arity.toNat)
    (hmax : s.arity.toNat ≤ s.params.nMax) (hk : s.kcount ≠ 0) :
    exec .build s = .next ((s.commit s.buildResult).complete 0 0) := by
  rw [exec_eq_finish, commandBody, bodyBuild, if_neg (not_not.mpr hphase), if_neg (Nat.not_lt.mpr hn),
    if_neg (Nat.not_lt.mpr hmax), if_neg hk, finish_done]

end Sys2Proof.Machine
end

section
/-! PROOFS of the family 10_state.md, second part: the invariant (R36 to R50), which each command's pseudocode keeps up to the
LAST registers that its completion writes, the hold (R46), and who writes what. -/

namespace Sys2Proof.Machine

/-! ### Frequencies (R35 to R37) -/

/-- A memory with nothing counted meets R36 and R37. -/
theorem freqOk_of_nothing_counted {s : State} (hfreq : s.freq = []) (hk : s.kcount = 0) (ht : s.total = 0) : s.FreqOk := by
  have hzero : s.freqAt = fun _ => 0 := by
    funext x
    rw [State.freqAt, hfreq]
    rfl
  refine ⟨by rw [hfreq]; rfl, by simp [hfreq], ?_, ?_, by simp [ht]⟩
  · simp [hk, hzero]
  · simp [ht, hzero]

/-- R160: what the counts read after a COUNT. -/
theorem State.countSym_freqAt (s : State) (sym x : Nat) :
    (s.countSym sym).freqAt x = if x = sym then s.freqAt sym + 1 else s.freqAt x := by
  rw [State.freqAt, State.countSym_freq, freqWrite, if_neg (Nat.succ_ne_zero _), Memory.read_write]
  split <;> rfl

/-- A place in a range has the rest of the range around it. -/
theorem range_eq_append_cons {i n : Nat} (h : i < n) :
    ∃ below above, List.range n = below ++ i :: above ∧ i ∉ below ∧ i ∉ above := by
  obtain ⟨below, above, heq⟩ := List.append_of_mem (List.mem_range.mpr h)
  have hnodup := heq ▸ List.nodup_range (n := n)
  obtain ⟨hmem, -⟩ := List.nodup_cons.mp (List.nodup_middle.mp hnodup)
  rw [List.mem_append, not_or] at hmem
  exact ⟨below, above, heq, hmem⟩

/-- R36, R37: a COUNT of a symbol adds one to the sum of the counts, and one to the present symbols where it is new. -/
theorem State.countSym_sums (s : State) {sym n : Nat} (h : sym < n) :
    ((List.range n).map (s.countSym sym).freqAt).sum = ((List.range n).map s.freqAt).sum + 1 ∧
    ((List.range n).filter fun x => (s.countSym sym).freqAt x ≠ 0).length =
      ((List.range n).filter fun x => s.freqAt x ≠ 0).length + if s.freqAt sym = 0 then 1 else 0 := by
  obtain ⟨below, above, hrange, hbelow, habove⟩ := range_eq_append_cons h
  have hother : ∀ l : List Nat, sym ∉ l → ∀ x ∈ l, (s.countSym sym).freqAt x = s.freqAt x := fun l hl x hx => by
    rw [s.countSym_freqAt, if_neg (ne_of_mem_of_not_mem hx hl)]
  have hmap : ∀ l : List Nat, sym ∉ l → l.map (s.countSym sym).freqAt = l.map s.freqAt := fun l hl =>
    List.map_congr_left (hother l hl)
  have hfilter : ∀ l : List Nat, sym ∉ l →
      l.filter (fun x => (s.countSym sym).freqAt x ≠ 0) = l.filter fun x => s.freqAt x ≠ 0 := fun l hl =>
    List.filter_congr fun x hx => by rw [hother l hl x hx]
  have hsame : (s.countSym sym).freqAt sym = s.freqAt sym + 1 := by rw [s.countSym_freqAt, if_pos rfl]
  rw [hrange]
  constructor
  · simp only [List.map_append, List.map_cons, List.sum_append, List.sum_cons, hmap _ hbelow, hmap _ habove, hsame]
    omega
  · rw [List.filter_append, List.filter_append, List.filter_cons, List.filter_cons, hfilter _ hbelow, hfilter _ habove,
      hsame]
    by_cases h0 : s.freqAt sym = 0
    · simp [h0, Nat.add_assoc]
    · simp [h0]

/-- R160, R162: a COUNT that passes its checks keeps FREQ, KCOUNT and TOTAL in agreement. -/
theorem State.FreqOk.countSym {s : State} (h : s.FreqOk) (hlegal : s.params.Legal) {sym : Nat}
    (hsym : sym < s.params.symCount) (htotal : s.total ≠ s.params.freqMax) : (s.countSym sym).FreqOk := by
  have hk := h.kcount_le_symCount
  obtain ⟨hwf, hrange, hcount, hsum, hmax⟩ := h
  obtain ⟨hsums, hcounts⟩ := s.countSym_sums hsym
  have hfits := symCount_le_of_legal hlegal
  refine ⟨freqWrite_wf sym (s.freqAt sym + 1) hwf, fun e he => ?_, ?_, ?_, ?_⟩
  · rw [State.countSym_freq, freqWrite, if_neg (Nat.succ_ne_zero _)] at he
    obtain rfl | he := Memory.mem_write he
    · exact hsym
    · exact hrange e he
  · rw [State.countSym_params, hcounts, ← hcount, State.countSym_kcount]
    split
    · rw [BitVec.toNat_add, Nat.mod_eq_of_lt (by simp; omega)]
      rfl
    · rfl
  · rw [State.countSym_params, hsums, ← hsum, State.countSym_total]
  · rw [State.countSym_params, State.countSym_total]
    omega

/-! ### The output FIFO (R50, R51) -/

/-- R51: a digit is an entry of OUT. -/
theorem entryOk_ofDigit (s : State) (d : Digit) : s.EntryOk (OutEntry.ofDigit d) := by
  refine ⟨fun _ => ?_, (nomatch ·)⟩
  have := d.isLt
  simp only [OutEntry.ofDigit, BitVec.toNat_setWidth]
  omega

/-- R51: a symbol in range is an entry of OUT. -/
theorem entryOk_ofSymbol {s : State} {sym : Nat} (h : sym < s.params.symCount) : s.EntryOk (OutEntry.ofSymbol sym) := by
  refine ⟨(nomatch ·), fun _ => Nat.lt_of_le_of_lt ?_ h⟩
  rw [OutEntry.ofSymbol, BitVec.toNat_ofNat]
  exact Nat.mod_le ..

/-- R50, R52: entries that fit into the free space may be pushed. -/
theorem State.OutOk.push {s : State} (h : s.OutOk) {es : List OutEntry} (hes : ∀ e ∈ es, s.EntryOk e)
    (hfree : es.length ≤ s.outFree) : (s.push es).OutOk := by
  obtain ⟨hlen, hall⟩ := h
  rw [State.outFree] at hfree
  refine ⟨?_, fun e he => (List.mem_append.mp he).elim (hall e) (hes e)⟩
  rw [State.push_out, List.length_append, State.push_params]
  omega

/-! ### The nodes of a tree by their place (R41) -/

/-- R41: a node of the tree is a leaf of a present symbol, a dummy or an internal node, by its index. -/
theorem State.TreeOk.node_cases {s : State} (h : s.TreeOk) {i : Nat} {e : Node} (he : s.nodes[i]? = some e) :
    (i < s.kcount.toNat ∧ e ∈ enumerateLeaves s) ∨
      (s.kcount.toNat ≤ i ∧ i < s.leafCount.toNat ∧ e = .dummy) ∨
      (s.leafCount.toNat ≤ i ∧ InternalOk s.nodes s.treeArity.toNat (e, i)) := by
  obtain ⟨-, -, -, -, -, hleaf, -, -, hleaves, hdummies, hinternal, -⟩ := h
  by_cases hk : i < s.kcount.toNat
  · refine .inl ⟨hk, hleaves ▸ List.mem_of_getElem? (i := i) ?_⟩
    rw [List.getElem?_take_of_lt hk, he]
  · by_cases hl : i < s.leafCount.toNat
    · have hd : e ∈ List.replicate s.pad.toNat Node.dummy := by
        refine hdummies ▸ List.mem_of_getElem? (i := i - s.kcount.toNat) ?_
        rw [List.getElem?_take_of_lt (by omega), List.getElem?_drop, Nat.add_sub_cancel' (Nat.not_lt.mp hk), he]
      exact .inr (.inl ⟨Nat.not_lt.mp hk, hl, List.eq_of_mem_replicate hd⟩)
    · have hl := Nat.not_lt.mp hl
      exact .inr (.inr ⟨hl, hinternal _ (List.mem_zipIdx_iff_le_and_getElem?_sub.mpr
        ⟨hl, by rw [List.getElem?_drop, Nat.add_sub_cancel' hl, he]⟩)⟩)

/-- R41, R184: the symbol of a leaf is in range. -/
theorem State.TreeOk.leaf_sym_lt {s : State} (h : s.TreeOk) {i sym f : Nat} (he : s.nodes[i]? = some (.leaf sym f)) :
    sym < s.params.symCount := by
  obtain ⟨-, hmem⟩ | ⟨-, -, hdummy⟩ | ⟨-, hkind, -⟩ := h.node_cases he
  · obtain ⟨x, hx, hleaf⟩ := List.mem_filterMap.mp hmem
    split at hleaf
    · cases hleaf; exact List.mem_range.mp hx
    · cases hleaf
  · cases hdummy
  · cases hkind

/-! ### The invariant while a command runs -/

/-- The invariant without what it says of LAST, which only the completion writes (R141). -/
structure State.RunInv (s : State) : Prop where
  legal : s.params.Legal
  freq : s.FreqOk
  out : s.OutOk
  sticky : s.sticky = true → IsErrorPair s.firstCode s.firstSub
  notSticky : s.sticky = false → s.firstCode = 0 ∧ s.firstSub = 0
  idle : s.phase = .idle → s.IdleOk
  built : s.phase = .built → s.TreeOk ∧ s.CodesOk ∧ s.CursorOk

theorem State.Inv.runInv {s : State} (h : s.Inv) : s.RunInv := by
  obtain ⟨hlegal, hfreq, hout, ⟨-, hsticky, hnot, -⟩, hidle, hbuilt⟩ := h
  exact ⟨hlegal, hfreq, hout, hsticky, hnot, hidle, hbuilt⟩

/-- R280: an error's code and sub-code are a pair of the table. -/
theorem CmdError.isErrorPair (e : CmdError) : IsErrorPair e.code e.sub := ⟨e, by cases e <;> decide, rfl, rfl⟩

section
variable {s : State} (h : s.RunInv)
include h

/-- R141: completion with OK establishes the invariant. -/
theorem State.RunInv.complete_ok : (s.complete 0 0).Inv := by
  rw [State.complete_ok]
  exact ⟨h.legal, h.freq, h.out, ⟨.inl ⟨rfl, rfl⟩, h.sticky, h.notSticky, fun hne => absurd rfl hne⟩, h.idle, h.built⟩

/-- R141, R48: completion with an error establishes the invariant. -/
theorem State.RunInv.raise (e : CmdError) : (s.raise e).Inv := by
  have hcode := e.code_ne_zero
  have hsticky : (s.raise e).sticky = true := by rw [State.raise_sticky, bne_iff_ne.mpr hcode, Bool.or_true]
  refine ⟨h.legal, h.freq, h.out, ⟨.inr e.isErrorPair, fun _ => ?_, fun hnot => ?_, fun _ => hsticky⟩, h.idle, h.built⟩
  · rw [State.raise_firstCode, State.raise_firstSub]
    cases hs : s.sticky with
    | true => simpa using h.sticky hs
    | false =>
      rw [if_pos ⟨hcode, rfl⟩, if_pos ⟨hcode, rfl⟩]
      exact e.isErrorPair
  · rw [hsticky] at hnot
    cases hnot

/-- R44: a move of the decoder in phase BUILT keeps the rest of the invariant. -/
theorem State.RunInv.setDecoder (hphase : s.phase = .built) {d : DecState} {c : NodeIdx}
    (hcursor : (s.setDecoder d c).CursorOk) : (s.setDecoder d c).RunInv := by
  obtain ⟨htree, hcodes, -⟩ := h.built hphase
  exact ⟨h.legal, h.freq, h.out, h.sticky, h.notSticky, fun hidle => absurd (hphase.symm.trans hidle) (by decide),
    fun _ => ⟨htree, hcodes, hcursor⟩⟩

/-- R44: the root is a place for the cursor in every decoder state. -/
theorem State.RunInv.setDecoder_root (hphase : s.phase = .built) (d : DecState) : (s.setDecoder d s.root).RunInv :=
  h.setDecoder hphase ⟨fun _ => .inl rfl, fun _ => rfl⟩

theorem State.RunInv.push {es : List OutEntry} (hes : ∀ e ∈ es, s.EntryOk e) (hfree : es.length ≤ s.outFree) :
    (s.push es).RunInv :=
  ⟨h.legal, h.freq, h.out.push hes hfree, h.sticky, h.notSticky, h.idle, h.built⟩

/-- R251: the symbol of a leaf may be pushed where there is a free entry. -/
theorem State.RunInv.push_leaf (hphase : s.phase = .built) {i sym f : Nat} (hi : s.nodes[i]? = some (.leaf sym f))
    (hfree : ¬ s.outFree < 1) : (s.push [OutEntry.ofSymbol sym]).RunInv := by
  obtain ⟨htree, -⟩ := h.built hphase
  exact h.push (by simpa using entryOk_ofSymbol (htree.leaf_sym_lt hi)) (Nat.not_lt.mp hfree)

/-- R49: no part of the invariant speaks of RES0 and RES1. -/
theorem State.RunInv.setRes (r0 r1 : Word) : (s.setRes r0 r1).RunInv :=
  ⟨h.legal, h.freq, h.out, h.sticky, h.notSticky, h.idle, h.built⟩

/-- R145: CLEAR leaves nothing counted and nothing built. -/
theorem State.RunInv.clear : s.clear.RunInv :=
  ⟨h.legal, freqOk_of_nothing_counted rfl rfl rfl, ⟨Nat.zero_le _, fun _ he => (nomatch he)⟩, (nomatch ·),
    fun _ => ⟨rfl, rfl⟩, fun _ => ⟨rfl, rfl, rfl, rfl, rfl, rfl, rfl, rfl, rfl⟩, (nomatch ·)⟩

/-- R191: BUILD's commit establishes what phase BUILT asks for. -/
theorem State.RunInv.commit (hphase : s.phase = .idle) (hn : 2 ≤ s.arity.toNat) (hmax : s.arity.toNat ≤ s.params.nMax)
    (hk : s.kcount ≠ 0) : (s.commit s.buildResult).RunInv := by
  obtain ⟨-, -, -, -, -, -, hcodes, -⟩ := h.idle hphase
  obtain ⟨-, hroot, -, hnodes⟩ := builtTree_buildResult h.legal h.freq hn hmax hk
  have hfit := nodeMax_lt_of_legal h.legal
  refine ⟨h.legal, h.freq, h.out, h.sticky, h.notSticky, (nomatch ·), fun _ => ⟨?_, ?_, ?_⟩⟩
  · exact commit_buildResult_treeOk h.legal h.freq hn hmax hk
  · exact commit_codesOk _ hcodes (by omega)
  · exact ⟨fun _ => .inl rfl, fun _ => rfl⟩

end

/-- Settles O51: what the commit establishes, for a BUILD whose checks have passed. -/
theorem buildMakesATreeOfTheCounts : Obligations.BuildMakesATreeOfTheCounts := by
  unfold Obligations.BuildMakesATreeOfTheCounts
  intro s hinv hphase hn hmax hk
  have h := hinv.runInv
  obtain ⟨-, -, -, -, -, -, -, hdec, -⟩ := h.idle hphase
  obtain ⟨htree, hcodes, -⟩ := (h.commit hphase hn hmax hk).built rfl
  exact ⟨_, exec_build_of_checks hphase hn hmax hk, rfl, rfl, rfl, rfl, rfl, rfl, htree, hcodes, hdec, rfl⟩

/-! ### Every command keeps it -/

/-- The writes made when a pseudocode ends keep the invariant up to LAST. -/
def Body.KeepsInv : Body → Prop
  | .done u => u.RunInv
  | .raise u _ => u.RunInv
  | .wait => True
  | .noValue _ => True

section
variable {s : State} (h : s.RunInv)
include h

theorem withCode_keepsInv {sym : Nat} {use : List Digit → Body} (huse : ∀ code, (use code).KeepsInv) :
    (withCode s sym use).KeepsInv := by
  obtain ⟨-, hb⟩ | ⟨-, -, hb⟩ | ⟨-, -, -, hb⟩ | ⟨code, -, -, -, hb⟩ := withCode_cases s sym use
  all_goals rw [hb]
  · exact h
  · exact h
  · exact h
  · exact huse code

theorem withNode_keepsInv {node : Nat} {use : Node → Body} (huse : ∀ e, (use e).KeepsInv) :
    (withNode s node use).KeepsInv := by
  obtain ⟨-, hb⟩ | ⟨-, -, hb⟩ | ⟨-, -, -, hb⟩ | ⟨e, -, -, -, hb⟩ := withNode_cases s node use
  all_goals rw [hb]
  · exact h
  · exact h
  · trivial
  · exact huse e

theorem bodyCount_keepsInv (sym : Nat) : (bodyCount sym s).KeepsInv := by
  unfold bodyCount
  split
  · exact h
  · rename_i hphase
    split
    · exact h
    · rename_i hsym
      split
      · exact h
      · rename_i htotal
        have hsym : sym < s.params.symCount := by simpa [State.symInRange] using hsym
        have hidle := not_not.mp hphase
        exact ⟨h.legal, h.freq.countSym h.legal hsym htotal, h.out, h.sticky, h.notSticky, h.idle,
          fun hbuilt => absurd (hidle.symm.trans hbuilt) (by decide)⟩

theorem bodyBuild_keepsInv : (bodyBuild s).KeepsInv := by
  unfold bodyBuild
  split
  · exact h
  · split
    · exact h
    · split
      · exact h
      · split
        · exact h
        · rename_i hphase hn hmax hk
          exact h.commit (not_not.mp hphase) (Nat.not_lt.mp hn) (Nat.not_lt.mp hmax) hk

theorem bodyQChild_keepsInv (node ci : Nat) : (bodyQChild node ci s).KeepsInv := by
  refine withNode_keepsInv h fun e => ?_
  cases e with
  | leaf sym f => exact h
  | dummy => exact h
  | internal f children =>
    dsimp only
    split
    · exact h
    · split
      · trivial
      · exact h.setRes ..

theorem bodyEncSym_keepsInv (sym : Nat) : (bodyEncSym sym s).KeepsInv := by
  refine withCode_keepsInv h fun code => ?_
  split
  · trivial
  · rename_i hfree
    refine h.push (fun e he => ?_) (by simpa using hfree)
    obtain ⟨d, -, rfl⟩ := List.mem_map.mp he
    exact entryOk_ofDigit s d

/-- R251 at a leaf root. -/
theorem digitAtLeaf_keepsInv (hphase : s.phase = .built) {i sym f : Nat} (hi : s.nodes[i]? = some (.leaf sym f))
    (dig : Nat) : (digitAtLeaf s sym dig).KeepsInv := by
  unfold digitAtLeaf
  split
  · exact h.setDecoder_root hphase _
  · split
    · trivial
    · exact h.push_leaf hphase hi ‹_›

/-- R251 below an internal node. -/
theorem digitToChild_keepsInv (hphase : s.phase = .built) (hactive : s.decState = .active) (e : NodeIdx) :
    (digitToChild s e).KeepsInv := by
  unfold digitToChild
  split
  · trivial
  · rename_i f children hnode
    refine h.setDecoder hphase ⟨fun _ => .inr ?_, fun hne => absurd hactive hne⟩
    show (s.nodeAt e.toNat).map Node.kindCode = some 3
    rw [hnode]
    rfl
  · rename_i sym f hnode
    unfold emitSymbol
    split
    · trivial
    · exact (h.push_leaf hphase hnode ‹_›).setDecoder_root hphase _
  · exact h.setDecoder_root hphase _

theorem bodyDecDigit_keepsInv (dig : Nat) : (bodyDecDigit dig s).KeepsInv := by
  unfold bodyDecDigit
  split
  · exact h
  · have hphase : s.phase = .built := not_not.mp ‹_›
    split
    · exact h
    · exact h
    · split
      · exact h.setDecoder_root hphase _
      · split
        · trivial
        · trivial
        · exact digitAtLeaf_keepsInv h hphase ‹_› dig
        · split
          · trivial
          · exact digitToChild_keepsInv h hphase ‹_› _

theorem bodyDecEnd_keepsInv : (bodyDecEnd s).KeepsInv := by
  unfold bodyDecEnd
  split
  · exact h
  · have hphase : s.phase = .built := not_not.mp ‹_›
    split
    · exact h
    · exact h.setDecoder_root hphase _
    · split
      · exact h.setDecoder_root hphase _
      · rename_i hcursor
        rw [not_not.mp hcursor]
        exact h.setDecoder_root hphase _

/-- No command's pseudocode ends with writes that break the invariant. -/
theorem commandBody_keepsInv (i : Instr) : (commandBody i s).KeepsInv := by
  cases i with
  | nop => exact h
  | clear => exact h.clear
  | setArity n => exact ⟨h.legal, h.freq, h.out, h.sticky, h.notSticky, h.idle, h.built⟩
  | count sym => exact bodyCount_keepsInv h sym
  | build => exact bodyBuild_keepsInv h
  | encSym sym => exact bodyEncSym_keepsInv h sym
  | decStart =>
    show (bodyDecStart s).KeepsInv
    unfold bodyDecStart
    split
    · exact h
    · exact h.setDecoder_root (not_not.mp ‹_›) _
  | decDigit dig => exact bodyDecDigit_keepsInv h dig
  | decEnd => exact bodyDecEnd_keepsInv h
  | errAck => exact ⟨h.legal, h.freq, h.out, (nomatch ·), fun _ => ⟨rfl, rfl⟩, h.idle, h.built⟩
  | qFreq sym =>
    show (bodyQFreq sym s).KeepsInv
    unfold bodyQFreq
    split
    · exact h
    · exact h.setRes ..
  | qCode sym => exact withCode_keepsInv h fun code => h.setRes ..
  | qNode node => exact withNode_keepsInv h fun e => h.setRes ..
  | qChild node ci => exact bodyQChild_keepsInv h node ci

end

/-! ### Every step keeps it -/

/-- A command keeps the invariant, whether it succeeds, fails or is held. -/
theorem exec_keepsInv {i : Instr} {s t : State} (h : s.Inv) (ht : exec i s = .next t) : t.Inv := by
  have hbody := commandBody_keepsInv h.runInv i
  obtain ⟨u, hb, rfl⟩ | ⟨u, e, hb, rfl⟩ | ⟨-, rfl⟩ := exec_next ht
  · rw [hb] at hbody
    exact State.RunInv.complete_ok hbody
  · rw [hb] at hbody
    exact State.RunInv.raise hbody e
  · exact h

theorem engineStep_keepsInv {s t : State} (h : s.Inv) (ht : engineStep s = .next t) : t.Inv := by
  obtain ⟨-, rfl⟩ | ⟨-, -, rfl⟩ | ⟨w, why, -, -, -, rfl⟩ | ⟨w, i, -, -, -, hi⟩ := engineStep_next ht
  · exact h
  · exact h
  · exact h.runInv.raise _
  · exact exec_keepsInv h hi

/-- R83, R88: a host read at most takes the oldest entry of OUT. -/
theorem hostReadEffect_keepsInv {s : State} (h : s.Inv) (off : Nat) : (hostReadEffect off s).Inv := by
  obtain hr | hr | hr := hostReadEffect_cases off s
  all_goals rw [hr]
  · obtain ⟨hlegal, hfreq, ⟨hlen, hall⟩, hrest⟩ := h
    refine ⟨hlegal, hfreq, ⟨?_, fun e he => hall e (List.mem_of_mem_tail he)⟩, hrest⟩
    exact (List.length_tail ▸ Nat.sub_le ..).trans hlen
  · exact h
  · exact h

/-- R85, R86: a host write reaches only CMDL, BUSY and OVR, of which the invariant does not speak. -/
theorem hostWrite_keepsInv {s : State} (h : s.Inv) (off : Nat) (v : Word) : (hostWrite off v s).Inv := by
  obtain ⟨hw, -⟩ | ⟨hw, -⟩ | ⟨hw, -⟩ := hostWrite_cases off v s
  all_goals rw [hw]
  · exact h
  · exact h
  · exact h

/-- R71: the reset state meets the invariant at every legal parameter value. -/
theorem resetWith_inv {p : Params} (h : p.Legal) : (State.resetWith p).Inv :=
  ⟨h, freqOk_of_nothing_counted rfl rfl rfl, ⟨Nat.zero_le _, fun _ he => (nomatch he)⟩,
    ⟨.inl ⟨rfl, rfl⟩, (nomatch ·), fun _ => ⟨rfl, rfl⟩, fun hne => absurd rfl hne⟩,
    fun _ => ⟨rfl, rfl, rfl, rfl, rfl, rfl, rfl, rfl, rfl⟩, (nomatch ·)⟩

/-- Settles O59: the engine keeps the invariant command by command, the host's accesses and reset directly. -/
theorem everyStepKeepsTheInvariant : Obligations.EveryStepKeepsTheInvariant := by
  unfold Obligations.EveryStepKeepsTheInvariant
  intro s t h ht
  have hdrop : s.dropTurn.Inv := h
  obtain ⟨-, he⟩ | ⟨off, -, -, rfl⟩ | ⟨off, v, -, -, rfl⟩ | ⟨-, rfl⟩ := step_next ht
  · exact engineStep_keepsInv hdrop he
  · exact hostReadEffect_keepsInv hdrop off
  · exact hostWrite_keepsInv hdrop off v
  · obtain ⟨hlegal, -⟩ := h
    exact resetWith_inv hlegal

/-- Settles O58: this hardware's parameters are legal. -/
theorem resetMeetsTheInvariant : Obligations.ResetMeetsTheInvariant :=
  resetWith_inv (by decide)

/-! ### Holding (R46) -/

/-- R230: the code lookup waits only where what uses the code does. -/
theorem withCode_isWait {s : State} {sym : Nat} {use : List Digit → Body} :
    (withCode s sym use).isWait = true ↔
      s.phase = .built ∧ sym < s.params.symCount ∧ ∃ code, s.codeAt sym = some code ∧ (use code).isWait = true := by
  obtain ⟨hp, hb⟩ | ⟨-, hs, hb⟩ | ⟨-, -, hc, hb⟩ | ⟨code, hp, hs, hc, hb⟩ := withCode_cases s sym use
  all_goals rw [hb]
  · simp [Body.isWait, hp]
  · simp [Body.isWait, Nat.not_lt.mpr hs]
  · simp [Body.isWait, hc]
  · simp [hp, hs, hc]

/-- R200, R201: the node lookup never waits by itself. -/
theorem withNode_isWait_eq_false {s : State} {node : Nat} {use : Node → Body} (h : ∀ e, (use e).isWait = false) :
    (withNode s node use).isWait = false := by
  obtain ⟨-, hb⟩ | ⟨-, -, hb⟩ | ⟨-, -, -, hb⟩ | ⟨e, -, -, -, hb⟩ := withNode_cases s node use
  all_goals rw [hb]
  · rfl
  · rfl
  · rfl
  · exact h e

theorem outFree_lt_one (s : State) : s.outFree < 1 ↔ s.params.outDepth ≤ s.out.length := by
  rw [State.outFree]
  omega

/-- R230: ENC_SYM waits exactly where its code does not fit OUT. -/
theorem bodyEncSym_isWait {s : State} {sym : Nat} :
    (bodyEncSym sym s).isWait = true ↔ s.phase = .built ∧ sym < s.params.symCount ∧
      ∃ code, s.codeAt sym = some code ∧ s.params.outDepth - s.out.length < code.length := by
  have huse : ∀ code : List Digit, (if s.outFree < code.length then Body.wait
      else .done (s.push (code.map OutEntry.ofDigit))).isWait = true ↔ s.params.outDepth - s.out.length < code.length := by
    intro code
    rw [State.outFree]
    split <;> simp [Body.isWait, *]
  simp only [bodyEncSym, withCode_isWait, huse]

/-- R251 at a leaf root: digit 0 waits for a free entry. -/
theorem digitAtLeaf_isWait {s : State} {sym dig : Nat} :
    (digitAtLeaf s sym dig).isWait = true ↔ dig = 0 ∧ s.params.outDepth ≤ s.out.length := by
  rw [← outFree_lt_one, digitAtLeaf]
  split
  · simp [abortSession, Body.isWait, *]
  · split <;> simp_all [Body.isWait]

/-- R251 below an internal node: a digit that reaches a leaf waits for a free entry. -/
theorem digitToChild_isWait {s : State} {e : NodeIdx} :
    (digitToChild s e).isWait = true ↔
      s.params.outDepth ≤ s.out.length ∧ ∃ y g, s.nodes[e.toNat]? = some (.leaf y g) := by
  rw [← outFree_lt_one, digitToChild, State.nodeAt]
  cases s.nodes[e.toNat]? with
  | none => simp [Body.isWait]
  | some q =>
    cases q with
    | leaf y g =>
      simp only [emitSymbol]
      split <;> simp [Body.isWait, *]
    | dummy => simp [abortSession, Body.isWait]
    | internal g cs => simp [Body.isWait]

/-- R251: DEC_DIGIT waits exactly where it would emit a symbol and OUT has no free entry. -/
theorem bodyDecDigit_isWait {s : State} {dig : Nat} :
    (bodyDecDigit dig s).isWait = true ↔ s.phase = .built ∧ s.decState = .active ∧ dig < s.treeArity.toNat ∧
      s.params.outDepth ≤ s.out.length ∧
      ((∃ y f, s.nodes[s.cursor.toNat]? = some (.leaf y f) ∧ dig = 0) ∨
        ∃ f cs e y g, s.nodes[s.cursor.toNat]? = some (.internal f cs) ∧ cs[dig]? = some e ∧
          s.nodes[e.toNat]? = some (.leaf y g)) := by
  rw [bodyDecDigit, State.nodeAt]
  by_cases hphase : s.phase = .built
  · rw [if_neg (not_not.mpr hphase)]
    cases hdec : s.decState with
    | idle => simp [Body.isWait]
    | aborted => simp [Body.isWait]
    | active =>
      dsimp only
      by_cases hdig : s.treeArity.toNat ≤ dig
      · simp [abortSession, Body.isWait, hdig, Nat.not_lt.mpr hdig]
      · rw [if_neg hdig]
        cases hnode : s.nodes[s.cursor.toNat]? with
        | none => simp [Body.isWait]
        | some q =>
          cases q with
          | dummy => simp [Body.isWait]
          | leaf y f => simp [digitAtLeaf_isWait, hphase, Nat.not_le.mp hdig, and_comm]
          | internal f cs =>
            cases hchild : cs[dig]? with
            | none => simp [Body.isWait, hchild]
            | some e => simp [digitToChild_isWait, hphase, Nat.not_le.mp hdig, hchild]
  · simp [Body.isWait, hphase]

/-- R201: Q_CHILD never waits. -/
theorem bodyQChild_isWait_eq_false (node ci : Nat) (s : State) : (bodyQChild node ci s).isWait = false := by
  refine withNode_isWait_eq_false fun e => ?_
  cases e with
  | leaf sym f => rfl
  | dummy => rfl
  | internal f children =>
    dsimp only
    repeat' split
    all_goals rfl

/-- R46: only ENC_SYM and DEC_DIGIT can wait. -/
theorem encSym_or_decDigit_of_waits {i : Instr} {s : State} (h : Waits i s) :
    (∃ sym, i = .encSym sym) ∨ ∃ dig, i = .decDigit dig := by
  have hnever : (commandBody i s).isWait ≠ false := by
    rw [show (commandBody i s).isWait = true from h]
    decide
  cases i with
  | encSym sym => exact .inl ⟨sym, rfl⟩
  | decDigit dig => exact .inr ⟨dig, rfl⟩
  | nop => exact absurd rfl hnever
  | clear => exact absurd rfl hnever
  | setArity n => exact absurd rfl hnever
  | errAck => exact absurd rfl hnever
  | count sym =>
    refine absurd ?_ hnever
    rw [commandBody, bodyCount]
    repeat' split
    all_goals rfl
  | build =>
    refine absurd ?_ hnever
    rw [commandBody, bodyBuild]
    repeat' split
    all_goals rfl
  | decStart =>
    refine absurd ?_ hnever
    rw [commandBody, bodyDecStart]
    split <;> rfl
  | decEnd =>
    refine absurd ?_ hnever
    rw [commandBody, bodyDecEnd]
    repeat' split
    all_goals rfl
  | qFreq sym =>
    refine absurd ?_ hnever
    rw [commandBody, bodyQFreq]
    split <;> rfl
  | qCode sym =>
    obtain ⟨-, -, code, -, hwait⟩ := withCode_isWait.mp h
    cases hwait
  | qNode node => exact absurd (withNode_isWait_eq_false fun e => rfl) hnever
  | qChild node ci => exact absurd (bodyQChild_isWait_eq_false node ci s) hnever

/-- R46: HOLD is BUSY with a latched command that waits. -/
theorem hold_iff {s : State} :
    s.hold = true ↔ s.busy = true ∧ ∃ w i, s.cmdl = .word w ∧ decode w = .command i ∧ Waits i s := by
  rw [State.hold, Bool.and_eq_true]
  refine and_congr_right fun _ => ?_
  cases s.cmdl with
  | init => simp
  | word w => cases hd : decode w <;> simp [Waits, hd]

/-- Settles O34: HOLD is a latched command that waits, and the two commands that wait do so for OUT alone. -/
theorem holdIsALackOfOutputSpace : Obligations.HoldIsALackOfOutputSpace := by
  unfold Obligations.HoldIsALackOfOutputSpace
  intro s
  rw [hold_iff]
  constructor
  · rintro ⟨hbusy, w, i, hw, hd, hwait⟩
    obtain ⟨sym, rfl⟩ | ⟨dig, rfl⟩ := encSym_or_decDigit_of_waits hwait
    · obtain ⟨hphase, hsym, code, hcode, hlack⟩ := bodyEncSym_isWait.mp hwait
      exact ⟨hbusy, w, _, hw, hd, hphase, .inl ⟨sym, code, rfl, hsym, hcode, hlack⟩⟩
    · obtain ⟨hphase, hemits⟩ := bodyDecDigit_isWait.mp hwait
      exact ⟨hbusy, w, _, hw, hd, hphase, .inr ⟨dig, rfl, hemits⟩⟩
  · rintro ⟨hbusy, w, i, hw, hd, hphase, ⟨sym, code, rfl, hsym, hcode, hlack⟩ | ⟨dig, rfl, hemits⟩⟩
    · exact ⟨hbusy, w, _, hw, hd, bodyEncSym_isWait.mpr ⟨hphase, hsym, code, hcode, hlack⟩⟩
    · exact ⟨hbusy, w, _, hw, hd, bodyDecDigit_isWait.mpr ⟨hphase, hemits⟩⟩

/-! ### Who writes what (R34, R49, R50) -/

/-- R283: a command that raises changes neither the phase nor the results nor OUT. -/
theorem RaiseWrites.frame {s u : State} {i : Instr} (h : RaiseWrites s i u) :
    u.phase = s.phase ∧ u.res0 = s.res0 ∧ u.res1 = s.res1 ∧ u.out = s.out := by
  cases h <;> simp

section
variable {s u : State} {i : Instr} (h : SuccessWrites s i u)
include h

/-- R34: the phase after a command's writes. -/
theorem SuccessWrites.phase : u.phase = s.phase ∨ (i = .build ∧ u.phase = .built) ∨ (i = .clear ∧ u.phase = .idle) := by
  cases h with
  | build => exact .inr (.inl ⟨rfl, rfl⟩)
  | clear => exact .inr (.inr ⟨rfl, rfl⟩)
  | _ => exact .inl rfl

/-- R49: the results after a command's writes. -/
theorem SuccessWrites.results (hclear : i ≠ .clear) : (u.res0 = s.res0 ∧ u.res1 = s.res1) ∨
    (∃ x, i = .qFreq x) ∨ (∃ x, i = .qCode x) ∨ (∃ x, i = .qNode x) ∨ ∃ x c, i = .qChild x c := by
  cases h with
  | clear => exact absurd rfl hclear
  | qFreq x => exact .inr (.inl ⟨x, rfl⟩)
  | qCode x => exact .inr (.inr (.inl ⟨x, rfl⟩))
  | qNode x => exact .inr (.inr (.inr (.inl ⟨x, rfl⟩)))
  | qChild x c => exact .inr (.inr (.inr (.inr ⟨x, c, rfl⟩)))
  | _ => exact .inl ⟨rfl, rfl⟩

/-- R50: OUT after a command's writes. -/
theorem SuccessWrites.out (hclear : i ≠ .clear) :
    ∃ es, u.out = s.out ++ es ∧ (es ≠ [] → (∃ x, i = .encSym x) ∨ ∃ d, i = .decDigit d) := by
  cases h with
  | clear => exact absurd rfl hclear
  | encSym x es => exact ⟨es, rfl, fun _ => .inl ⟨x, rfl⟩⟩
  | decDigitEmit d e c => exact ⟨[e], rfl, fun _ => .inr ⟨d, rfl⟩⟩
  | _ => exact ⟨[], (List.append_nil _).symm, fun hne => absurd rfl hne⟩

end

/-- Settles O37: among a command's possible writes, only BUILD's commit and CLEAR's write the phase. -/
theorem onlyBuildAndClearChangePhase : Obligations.OnlyBuildAndClearChangePhase := by
  unfold Obligations.OnlyBuildAndClearChangePhase
  intro i s t h
  obtain ⟨u, hdone, rfl⟩ | ⟨u, e, hraise, rfl⟩ | rfl := exec_next_writes h
  · rw [State.complete_phase]
    obtain hphase | ⟨rfl, hphase⟩ | ⟨rfl, hphase⟩ := hdone.phase
    · rw [hphase]
      exact ⟨.inl, .inl⟩
    · exact ⟨fun _ => .inr ⟨rfl, rfl⟩, fun hidle => absurd (hphase.symm.trans hidle) (by decide)⟩
    · exact ⟨fun hbuilt => absurd (hphase.symm.trans hbuilt) (by decide), fun _ => .inr rfl⟩
  · obtain ⟨hphase, -⟩ := hraise.frame
    rw [State.raise_phase, hphase]
    exact ⟨.inl, .inl⟩
  · exact ⟨.inl, .inl⟩

/-- Settles O38: among a command's possible writes, only the queries' and CLEAR's write the results. -/
theorem onlyQueriesWriteResults : Obligations.OnlyQueriesWriteResults := by
  unfold Obligations.OnlyQueriesWriteResults
  intro i s t h
  refine ⟨?_, fun hclear hchanged => ?_⟩
  · rintro rfl
    cases h
    exact ⟨rfl, rfl⟩
  · obtain ⟨u, hdone, rfl⟩ | ⟨u, e, hraise, rfl⟩ | rfl := exec_next_writes h
    · obtain ⟨h0, h1⟩ | hquery := hdone.results hclear
      · simp [h0, h1] at hchanged
      · exact ⟨rfl, hquery⟩
    · obtain ⟨-, h0, h1, -⟩ := hraise.frame
      simp [h0, h1] at hchanged
    · simp at hchanged

/-- Settles O39: among a command's possible writes, only ENC_SYM's and DEC_DIGIT's push, and only CLEAR's removes. -/
theorem onlyEncodeAndDecodeAppendToOut : Obligations.OnlyEncodeAndDecodeAppendToOut := by
  unfold Obligations.OnlyEncodeAndDecodeAppendToOut
  intro i s t h
  refine ⟨?_, fun hclear => ?_⟩
  · rintro rfl
    cases h
    rfl
  · obtain ⟨u, hdone, rfl⟩ | ⟨u, e, hraise, rfl⟩ | rfl := exec_next_writes h
    · obtain ⟨es, hout, hwho⟩ := hdone.out hclear
      exact ⟨es, hout, fun hne => ⟨rfl, hwho hne⟩⟩
    · obtain ⟨-, -, -, hout⟩ := hraise.frame
      exact ⟨[], by rw [State.raise_out, hout, List.append_nil], fun hne => absurd rfl hne⟩
    · exact ⟨[], (List.append_nil _).symm, fun hne => absurd rfl hne⟩

/-! ### Reserved offsets (R69) and reset (R71) -/

/-- R53, R69: no register stands at a reserved offset. -/
theorem ofOffset_reserved {off : Nat} (h : 0x40 ≤ off) : Reg.ofOffset off = none := by
  unfold Reg.ofOffset
  split
  case h_17 => rfl
  all_goals omega

/-- Settles O16: an admitted access to an offset without a register. -/
theorem reservedOffsetsReadZeroAndIgnoreWrites : Obligations.ReservedOffsetsReadZeroAndIgnoreWrites := by
  unfold Obligations.ReservedOffsetsReadZeroAndIgnoreWrites
  intro s rest off v hlow hhigh halign
  have hreg := ofOffset_reserved hlow
  have hadmitted : admitted off 4 = true := (admitted_iff _ _).mpr ⟨rfl, halign, by omega⟩
  constructor
  · intro hturn
    simp [step, State.nextTurn, State.dropTurn, hturn, takeTurn, readTurn, hadmitted, hostReadEffect, hostReadWord, hreg,
      State.answer]
  · intro hturn
    simp [step, State.nextTurn, State.dropTurn, hturn, takeTurn, writeTurn, hadmitted, hostWrite, hreg]

/-- Settles O18: each field of the reset state, and the step that completes INIT. -/
theorem resetStateIsTheTable : Obligations.ResetStateIsTheTable := by
  unfold Obligations.ResetStateIsTheTable
  exact ⟨⟨rfl, rfl, fun x => rfl, rfl, rfl, rfl, fun i => rfl, rfl, rfl, rfl, rfl, fun x => rfl, rfl, rfl, rfl, rfl, rfl,
    rfl, rfl, rfl, rfl, rfl, rfl, rfl, rfl, rfl⟩, rfl⟩

/-! ### Entries that hold no value (R39, I10) -/

/-- R200, R201: the node lookup stops at an entry below NODE_COUNT that holds no value. -/
theorem withNode_none {s : State} {node : Nat} (use : Node → Body) (hphase : s.phase = .built)
    (hlt : node < s.nodeCount.toNat) (hnode : s.nodes[node]? = none) :
    withNode s node use = .noValue .nodeHoldsNoValue := by
  simp [withNode, State.nodeAt, hphase, Nat.not_le.mpr hlt, hnode]

/-- R200, R201: past its checks, the node lookup finds the entry. -/
theorem withNode_some {s : State} {node : Nat} {e : Node} (use : Node → Body) (hphase : s.phase = .built)
    (hlt : node < s.nodeCount.toNat) (hnode : s.nodes[node]? = some e) : withNode s node use = use e := by
  simp [withNode, State.nodeAt, hphase, Nat.not_le.mpr hlt, hnode]

/-- R39: KIND 3 is an internal node. -/
theorem Node.eq_internal_of_kindCode {e : Node} (h : e.kindCode = 3) : ∃ f children, e = .internal f children := by
  cases e with
  | leaf sym f => cases h
  | dummy => cases h
  | internal f children => exact ⟨f, children, rfl⟩

/-- Settles O33: each read of the node memory, at an entry or child position that holds no value. -/
theorem valuelessNodeReadsFault : Obligations.ValuelessNodeReadsFault := by
  unfold Obligations.ValuelessNodeReadsFault
  intro s hphase
  refine ⟨fun x hx hnode => ⟨?_, fun ci => ?_⟩, fun x ci e hx hnode hkind hci hchild => ?_, fun dig hactive hdig => ?_⟩
  · rw [exec_eq_finish, commandBody, bodyQNode, withNode_none _ hphase hx hnode, finish_noValue]
  · rw [exec_eq_finish, commandBody, bodyQChild, withNode_none _ hphase hx hnode, finish_noValue]
  · rw [exec_eq_finish, commandBody, bodyQChild, withNode_some _ hphase hx hnode]
    obtain ⟨f, children, rfl⟩ := Node.eq_internal_of_kindCode hkind
    dsimp only
    rw [if_neg (Nat.not_le.mpr hci), show children[ci]? = none from hchild, finish_noValue]
  · rw [exec_eq_finish, commandBody, bodyDecDigit, if_neg (not_not.mpr hphase), hactive]
    dsimp only
    rw [if_neg (Nat.not_le.mpr hdig), State.nodeAt]
    refine ⟨fun hnode => ?_, fun e hnode hkind hchild => ?_, fun e c hnode hchild hnone => ?_⟩
    · rw [hnode, finish_noValue]
    · rw [hnode]
      cases e with
      | leaf sym f => exact absurd rfl hkind
      | dummy => rfl
      | internal f children =>
        dsimp only
        rw [show children[dig]? = none from hchild, finish_noValue]
    · rw [hnode]
      cases e with
      | leaf sym f => cases hchild
      | dummy => cases hchild
      | internal f children =>
        dsimp only
        rw [show children[dig]? = some c from hchild]
        dsimp only
        rw [digitToChild, State.nodeAt, hnone, finish_noValue]

end Sys2Proof.Machine
end

section
/-! PROOFS of the family 20_memory.md: the host's reads and writes (R81 to R88). A host turn is reduced once to the access on the
state with the turn used up; what a register reads is its value as the sum of its fields, or the free value. -/

namespace Sys2Proof.Machine

/-! ### Host turns (R81) -/

section
variable {s : State} {rest : List Turn} {off size : Nat}

theorem step_read (h : s.turns = .read off size :: rest) : step s = readTurn off size { s with turns := rest } := by
  simp [step, State.nextTurn, State.dropTurn, takeTurn, h]

theorem step_write {v : Word} (h : s.turns = .write off size v :: rest) :
    step s = writeTurn off size v { s with turns := rest } := by
  simp [step, State.nextTurn, State.dropTurn, takeTurn, h]

/-- R81: the offset of a register is admitted. -/
theorem admitted_of_ofOffset {r : Reg} (h : Reg.ofOffset off = some r) : admitted off 4 = true := by
  unfold Reg.ofOffset at h
  split at h
  case h_17 => cases h
  all_goals rfl

/-- R83: a read of a register returns what it reads as, with what the read does. -/
theorem step_read_reg {r : Reg} (h : s.turns = .read off 4 :: rest) (hreg : Reg.ofOffset off = some r) :
    step s = .next ((r.readEffect { s with turns := rest }).answer (r.readWord { s with turns := rest })) := by
  rw [step_read h, readTurn, if_pos (admitted_of_ofOffset hreg), hostReadEffect, hostReadWord, hreg]

theorem step_write_admitted {v : Word} (h : s.turns = .write off 4 v :: rest) (halign : off % 4 = 0) (hlt : off < 0x100) :
    step s = .next (hostWrite off v { s with turns := rest }) := by
  rw [step_write h, writeTurn, if_pos ((admitted_iff _ _).mpr ⟨rfl, halign, hlt⟩)]

end

/-! ### The fields of a register word (R54 to R68) -/

/-- A field at bit `k` above the value `lo` adds its value times 2 to the k. -/
theorem setWidth_shiftLeft_or_ofNat {w k lo : Nat} (field : BitVec w) (h : lo < 2 ^ k) :
    field.setWidth 32 <<< k ||| BitVec.ofNat 32 lo = BitVec.ofNat 32 (lo + 2 ^ k * field.toNat) := by
  have hshift : field.setWidth 32 <<< k = BitVec.ofNat 32 (field.toNat <<< k) := by
    apply BitVec.eq_of_toNat_eq
    simp [Nat.shiftLeft_eq, Nat.mul_mod]
  rw [hshift, ← BitVec.ofNat_or, ← Nat.shiftLeft_add_eq_or_of_lt h, Nat.shiftLeft_eq, Nat.add_comm, Nat.mul_comm]

theorem setWidth_ofNat_of_lt {w n : Nat} (h : n < 2 ^ w) : (BitVec.ofNat w n).setWidth 32 = BitVec.ofNat 32 n := by
  rw [← BitVec.ofNat_toNat, toNat_ofNat_of_lt h]

theorem toNat_append_eq_add {m n : Nat} (hi : BitVec m) (lo : BitVec n) :
    (hi ++ lo).toNat = lo.toNat + 2 ^ n * hi.toNat := by
  rw [BitVec.toNat_append, ← Nat.shiftLeft_add_eq_or_of_lt lo.isLt, Nat.shiftLeft_eq, Nat.add_comm, Nat.mul_comm]

/-- R55: PARAM0 holds three of the parameters. -/
theorem param0Word_eq {p : Params} (h : p.Legal) :
    param0Word p = BitVec.ofNat 32 (p.symw + 2 ^ 8 * p.nMax + 2 ^ 16 * p.freqw) := by
  obtain ⟨⟨-, hsymw⟩, ⟨-, hnMax⟩, ⟨-, hfreqw⟩, -⟩ := h
  rw [param0Word, BitVec.or_assoc, setWidth_ofNat_of_lt (show p.symw < 2 ^ 5 by omega),
    setWidth_shiftLeft_or_ofNat _ (by omega), toNat_ofNat_of_lt (by omega),
    setWidth_shiftLeft_or_ofNat _ (by omega), toNat_ofNat_of_lt (by omega)]

/-- R56: PARAM1 holds OUT_DEPTH. -/
theorem param1Word_eq {p : Params} (h : p.Legal) : param1Word p = BitVec.ofNat 32 p.outDepth := by
  obtain ⟨-, -, -, ⟨-, hdepth⟩, -⟩ := h
  exact setWidth_ofNat_of_lt (by omega)

/-- R58: the places of the fields of STATUS. -/
theorem statusLayout_eq (outFull outEmpty hold ovr sticky err : BitVec 1) (dec : BitVec 2) (phase busy : BitVec 1) :
    statusLayout outFull outEmpty hold ovr sticky err dec phase busy = BitVec.ofNat 32 (busy.toNat + 2 * phase.toNat +
      4 * dec.toNat + 16 * err.toNat + 32 * sticky.toNat + 64 * ovr.toNat + 128 * hold.toNat + 256 * outEmpty.toNat +
      512 * outFull.toNat) := by
  rw [statusLayout, ← BitVec.ofNat_toNat]
  congr 1
  simp only [toNat_append_eq_add]
  omega

theorem toNat_bit_decide (p : Prop) [Decidable p] : (bit (decide p)).toNat = if p then 1 else 0 := by
  by_cases h : p <;> simp [bit, h]

theorem State.outEmpty_eq (s : State) : s.outEmpty = decide (s.out = []) := by
  rw [State.outEmpty]
  cases s.out <;> rfl

theorem State.errFlag_eq (s : State) : s.errFlag = decide (s.lastCode ≠ 0) := by
  rw [State.errFlag, Bool.eq_iff_iff, bne_iff_ne, decide_eq_true_iff]

/-- R58: STATUS of an idle block, whose BUSY and HOLD are 0. -/
theorem State.statusWord_idle {s : State} (h : s.busy = false) :
    s.statusWord = BitVec.ofNat 32 (2 * s.phase.code.toNat + 4 * s.decState.code.toNat +
      16 * (if s.lastCode = 0 then 0 else 1) + 32 * s.sticky.toNat + 64 * s.ovr.toNat + 256 * (if s.out = [] then 1 else 0) +
      512 * (if s.out.length = s.params.outDepth then 1 else 0)) := by
  have hhold : s.hold = false := by rw [State.hold, h, Bool.false_and]
  rw [State.statusWord, statusLayout_eq, h, hhold, s.outEmpty_eq, s.errFlag_eq, State.outFull]
  simp only [toNat_bit_decide, ite_not]
  simp [bit]

/-- R59: the places of the fields of ERR. -/
theorem State.errWord_eq (s : State) :
    s.errWord = BitVec.ofNat 32 (s.lastCode.toNat + 2 ^ 8 * s.lastSub.toNat + 2 ^ 16 * s.firstCode.toNat +
      2 ^ 24 * s.firstSub.toNat) := by
  have hlast := s.lastCode.isLt
  have hsub := s.lastSub.isLt
  have hfirst := s.firstCode.isLt
  rw [State.errWord, BitVec.or_assoc, BitVec.or_assoc, ← BitVec.ofNat_toNat 32 s.lastCode,
    setWidth_shiftLeft_or_ofNat _ (by omega), setWidth_shiftLeft_or_ofNat _ (by omega),
    setWidth_shiftLeft_or_ofNat _ (by omega)]

/-- R61: VALID, KIND and VALUE of an entry. -/
theorem OutEntry.word_eq (e : OutEntry) :
    e.word = BitVec.ofNat 32 (2 ^ 31 + 2 ^ 28 * e.kind.code.toNat + e.value.toNat) := by
  have hvalue := e.value.isLt
  have hkind := e.kind.code.isLt
  have hfields : e.word = (1#1).setWidth 32 <<< 31 ||| e.kind.code.setWidth 32 <<< 28 ||| e.value.setWidth 32 := rfl
  rw [hfields, ← BitVec.ofNat_toNat 32 e.value, BitVec.or_assoc, setWidth_shiftLeft_or_ofNat _ (by omega),
    setWidth_shiftLeft_or_ofNat _ (by omega), Nat.add_comm, Nat.add_comm e.value.toNat, ← Nat.add_assoc]
  rfl

/-- R63: the places of the fields of CONFIG. -/
theorem State.configWord_eq (s : State) : s.configWord = BitVec.ofNat 32 (s.arity.toNat + 2 ^ 8 * s.treeArity.toNat) := by
  rw [State.configWord, ← BitVec.ofNat_toNat 32 s.arity, setWidth_shiftLeft_or_ofNat _ s.arity.isLt]

/-- R65: TOTAL fits its FREQW bits. -/
theorem State.totalWord_eq {s : State} (h : s.FreqOk) : s.totalWord = BitVec.ofNat 32 s.total := by
  obtain ⟨-, -, -, -, hmax⟩ := h
  exact setWidth_ofNat_of_lt (Nat.lt_of_le_pred (Nat.two_pow_pos _) hmax)

/-- R62: the number of entries fits its 18 bits. -/
theorem outCount_eq {s : State} (hlegal : s.params.Legal) (hout : s.OutOk) :
    Reg.value .outCount s = BitVec.ofNat 32 s.out.length := by
  obtain ⟨-, -, -, ⟨-, hdepth⟩, -⟩ := hlegal
  obtain ⟨hlen, -⟩ := hout
  exact setWidth_ofNat_of_lt (by omega)

/-- R68: the places of the fields of TREEINFO2. -/
theorem State.treeInfo2Word_eq (s : State) :
    s.treeInfo2Word = BitVec.ofNat 32 (s.leafCount.toNat + 2 ^ 24 * s.pad.toNat) := by
  have hleaf := s.leafCount.isLt
  rw [State.treeInfo2Word, ← BitVec.ofNat_toNat 32 s.leafCount, setWidth_shiftLeft_or_ofNat _ (by omega)]

/-! ### Reads of the registers (R83, R84) -/

/-- R46: the turns to come have no part in HOLD. -/
theorem State.hold_turns (s : State) (rest : List Turn) : State.hold { s with turns := rest } = s.hold :=
  Bool.eq_iff_iff.mpr ((holdIsALackOfOutputSpace { s with turns := rest }).trans (holdIsALackOfOutputSpace s).symm)

/-- The turns to come have no part in the value of a register. -/
theorem Reg.value_turns (r : Reg) (s : State) (rest : List Turn) : r.value { s with turns := rest } = r.value s := by
  cases r with
  | status =>
    simp only [Reg.value, State.statusWord, State.hold_turns, State.outFull, State.outEmpty, State.errFlag]
  | _ => rfl

/-- The turns to come have no part in STATUS while BUSY = 1. -/
theorem State.statusWhileBusy_turns (s : State) (rest : List Turn) (draw : Word) :
    State.statusWhileBusy { s with turns := rest } draw = s.statusWhileBusy draw := by
  simp only [State.statusWhileBusy, State.hold_turns, State.outFull, State.outEmpty]

section
variable {s : State} {rest : List Turn} {off : Nat} {r : Reg} (hturn : s.turns = .read off 4 :: rest)
  (hreg : Reg.ofOffset off = some r)
include hturn hreg

/-- R83, R84: an exact read of a register other than OUT_DATA returns its value and changes nothing of the block. -/
theorem step_read_exact {w : Word} (hpop : r ≠ .outData) (hexact : s.busy = false ∨ r.exactWhileBusy = true)
    (hw : r.value s = w) : step s = .next { s with turns := rest, answers := s.answers ++ [w] } := by
  have hfree : ¬ (s.busy && !r.exactWhileBusy) = true := by
    obtain h | h := hexact <;> simp [h]
  rw [step_read_reg hturn hreg, Reg.readEffect, if_neg hpop, if_neg hfree, Reg.readWord, if_neg hfree, Reg.value_turns, hw]
  rfl

/-- R84: an unspecified read answers with its draw, or STATUS with the draw in its unspecified bits, and changes nothing of
the block. -/
theorem step_read_unspecified (hbusy : s.busy = true) (hinexact : r.exactWhileBusy = false) :
    step s = .next { s with turns := rest, answers := s.answers ++ [if r = .status
      then s.statusWhileBusy (Config.unspecifiedRead s.draws) else Config.unspecifiedRead s.draws], draws := s.draws + 1 } := by
  have hpop : r ≠ .outData := by
    rintro rfl
    cases hinexact
  have hfree : (s.busy && !r.exactWhileBusy) = true := by simp [hbusy, hinexact]
  rw [step_read_reg hturn hreg, Reg.readEffect, if_neg hpop, if_pos hfree, Reg.readWord, if_pos hfree,
    State.statusWhileBusy_turns]
  rfl

end

/-- R54 to R68: each listed offset is that of a register other than OUT_DATA which has the listed value. -/
theorem reg_of_mem_registerValues {s : State} (hinv : s.Inv) (hbusy : s.busy = false) :
    ∀ e ∈ registerValues s, ∃ r, Reg.ofOffset e.1 = some r ∧ r ≠ .outData ∧ r.value s = BitVec.ofNat 32 e.2 := by
  obtain ⟨hlegal, hfreq, hout, -⟩ := hinv
  have hnarrow {w : Nat} (x : BitVec w) : x.setWidth 32 = BitVec.ofNat 32 x.toNat := (BitVec.ofNat_toNat 32 x).symm
  have hword (x : Word) : x = BitVec.ofNat 32 x.toNat := by rw [BitVec.ofNat_toNat, BitVec.setWidth_eq]
  simp only [registerValues, List.forall_mem_cons]
  exact ⟨⟨.id, rfl, by decide, rfl⟩,
    ⟨.param0, rfl, by decide, param0Word_eq hlegal⟩,
    ⟨.param1, rfl, by decide, param1Word_eq hlegal⟩,
    ⟨.cmd, rfl, by decide, rfl⟩,
    ⟨.status, rfl, by decide, State.statusWord_idle hbusy⟩,
    ⟨.err, rfl, by decide, s.errWord_eq⟩,
    ⟨.res0, rfl, by decide, hword s.res0⟩,
    ⟨.res1, rfl, by decide, hword s.res1⟩,
    ⟨.outCount, rfl, by decide, outCount_eq hlegal hout⟩,
    ⟨.config, rfl, by decide, s.configWord_eq⟩,
    ⟨.kcount, rfl, by decide, hnarrow s.kcount⟩,
    ⟨.total, rfl, by decide, State.totalWord_eq hfreq⟩,
    ⟨.treeInfo0, rfl, by decide, hnarrow s.nodeCount⟩,
    ⟨.treeInfo1, rfl, by decide, hnarrow s.root⟩,
    ⟨.treeInfo2, rfl, by decide, s.treeInfo2Word_eq⟩, List.forall_mem_nil _⟩

/-- Settles O14: an idle read is exact, of a register whose value is the sum of its fields. -/
theorem idleReadReturnsTheRegister : Obligations.IdleReadReturnsTheRegister := by
  unfold Obligations.IdleReadReturnsTheRegister
  intro s rest off v hinv hbusy hturn hmem
  obtain ⟨r, hreg, hpop, hvalue⟩ := reg_of_mem_registerValues hinv hbusy _ hmem
  exact step_read_exact hturn hreg hpop (.inl hbusy) hvalue

/-- R84: the offsets of the registers that are wholly unspecified while BUSY = 1. -/
theorem reg_of_mem_unspecified :
    ∀ off ∈ [0x14, 0x18, 0x1C, 0x28, 0x2C, 0x30, 0x34, 0x38, 0x3C],
      ∃ r, Reg.ofOffset off = some r ∧ r.exactWhileBusy = false ∧ r ≠ .status := by
  simp only [List.forall_mem_cons]
  exact ⟨⟨.err, rfl, rfl, by decide⟩, ⟨.res0, rfl, rfl, by decide⟩, ⟨.res1, rfl, rfl, by decide⟩,
    ⟨.config, rfl, rfl, by decide⟩, ⟨.kcount, rfl, rfl, by decide⟩, ⟨.total, rfl, rfl, by decide⟩,
    ⟨.treeInfo0, rfl, rfl, by decide⟩, ⟨.treeInfo1, rfl, rfl, by decide⟩, ⟨.treeInfo2, rfl, rfl, by decide⟩,
    List.forall_mem_nil _⟩

/-- R84: the bits of STATUS that are exact while BUSY = 1, whatever the draw. -/
theorem State.statusWhileBusy_exact (s : State) (draw : Word) :
    (s.statusWhileBusy draw).getLsbD 0 = s.busy ∧ (s.statusWhileBusy draw).getLsbD 6 = s.ovr ∧
      (s.statusWhileBusy draw).getLsbD 7 = s.hold ∧ (s.statusWhileBusy draw).getLsbD 8 = s.outEmpty ∧
      (s.statusWhileBusy draw).getLsbD 9 = s.outFull ∧ (s.statusWhileBusy draw).toNat < 2 ^ 10 := by
  refine ⟨?_, ?_, ?_, ?_, ?_, ?width⟩
  case width =>
    rw [State.statusWhileBusy, statusLayout, BitVec.toNat_setWidth]
    exact Nat.lt_of_le_of_lt (Nat.mod_le ..) (BitVec.isLt _)
  all_goals
    simp only [State.statusWhileBusy, statusLayout, bit, BitVec.getLsbD_setWidth, BitVec.getLsbD_append]
    simp

/-- Settles O15: the exact registers by their values, STATUS by its exact bits, the others by the draw. -/
theorem busyReadIsExactOrFree : Obligations.BusyReadIsExactOrFree := by
  unfold Obligations.BusyReadIsExactOrFree
  intro s rest off hlegal hbusy hturn
  refine ⟨?_, ?_, ?_, ?_, ?_, ?_, fun hmem => ?_⟩
  · rintro rfl
    exact step_read_exact (r := .id) hturn rfl (by decide) (.inr rfl) rfl
  · rintro rfl
    exact step_read_exact (r := .param0) hturn rfl (by decide) (.inr rfl) (param0Word_eq hlegal)
  · rintro rfl
    exact step_read_exact (r := .param1) hturn rfl (by decide) (.inr rfl) (param1Word_eq hlegal)
  · rintro rfl
    exact step_read_exact (r := .cmd) hturn rfl (by decide) (.inr rfl) rfl
  · rintro rfl hout
    exact step_read_exact (r := .outCount) hturn rfl (by decide) (.inr rfl) (outCount_eq hlegal hout)
  · rintro rfl
    obtain ⟨hb, hovr, hhold, hempty, hfull, hlt⟩ := s.statusWhileBusy_exact (Config.unspecifiedRead s.draws)
    refine ⟨_, step_read_unspecified (r := .status) hturn rfl hbusy rfl, ?_⟩
    rw [if_pos rfl]
    exact ⟨hb.trans hbusy, hovr, hhold, hempty.trans s.outEmpty_eq, hfull, hlt⟩
  · obtain ⟨r, hreg, hinexact, hstatus⟩ := reg_of_mem_unspecified off hmem
    rw [step_read_unspecified hturn hreg hbusy hinexact, if_neg hstatus]

/-! ### CMD writes (R85, R86), the pop of OUT_DATA (R88) and refused accesses (R81) -/

/-- Settles O11: an admitted write at CMD's offset, by BUSY. -/
theorem cmdWriteIsAcceptedOnlyWhenIdle : Obligations.CmdWriteIsAcceptedOnlyWhenIdle := by
  unfold Obligations.CmdWriteIsAcceptedOnlyWhenIdle
  intro s v rest hturn
  rw [step_write_admitted hturn (by decide) (by decide), hostWrite]
  constructor
  · intro hbusy
    simp [Reg.ofOffset, hbusy, State.latch]
  · intro hbusy
    simp [Reg.ofOffset, hbusy, State.overrun]

/-- Settles O12: of what a host write can do, only what it does away from CMD's offset is left. -/
theorem writesElsewhereAreIgnored : Obligations.WritesElsewhereAreIgnored := by
  unfold Obligations.WritesElsewhereAreIgnored
  intro s off v rest hturn halign hlt hcmd
  rw [step_write_admitted hturn halign hlt]
  obtain ⟨-, h, -⟩ | ⟨-, h, -⟩ | ⟨h, -⟩ := hostWrite_cases off v { s with turns := rest }
  · exact absurd h hcmd
  · exact absurd h hcmd
  · rw [h]

/-- Settles O13: the pop of OUT_DATA on an empty OUT and on either kind of entry. -/
theorem outDataReadPopsTheOldestEntry : Obligations.OutDataReadPopsTheOldestEntry := by
  unfold Obligations.OutDataReadPopsTheOldestEntry
  intro s rest hturn
  have hstep : step s = .next { s with turns := rest, out := s.out.tail, answers := s.answers ++ [s.outDataWord] } := by
    rw [step_read_reg (r := .outData) hturn rfl, Reg.readWord, if_neg (by simp [Reg.exactWhileBusy])]
    rfl
  rw [hstep, State.outDataWord]
  refine ⟨fun hout => ?_, fun d es hout => ?_, fun y es hout => ?_⟩
  · simp [hout]
  · simp [hout, OutEntry.word_eq, OutKind.code]
  · simp [hout, OutEntry.word_eq, OutKind.code]

/-- Settles O17: an access that meets one of the three conditions is not admitted. -/
theorem unadmittedAccessIsRefused : Obligations.UnadmittedAccessIsRefused := by
  unfold Obligations.UnadmittedAccessIsRefused
  intro s rest off size v hbad
  have hnot : ¬ admitted off size = true := by
    rw [admitted_iff]
    omega
  exact ⟨fun hturn => by rw [step_read hturn, readTurn, if_neg hnot],
    fun hturn => by rw [step_write hturn, writeTurn, if_neg hnot]⟩

end Sys2Proof.Machine
end

section
/-! PROOFS of the family 30_encoding.md: the words of a row of the opcode map (R111, R113) are an interval of consecutive
words, from the row's match word over every value of its operand bits. Both directions of the encoding, and the decoder on every
word, are arithmetic on that interval. -/

namespace Sys2Proof

open Machine

/-! ### The words of a row (R111, R113) -/

/-- How many low bits of a format's word hold operands: the bits that are neither OP nor reserved (R111). -/
def Format.operandWidth : Format → Nat
  | .n => 0
  | .a => 8
  | .s => 16
  | .d => 4
  | .x => 18
  | .xc => 22

/-- R113: a row's mask covers every bit above its operand bits. -/
theorem Opcode.mask_eq_shiftLeft (o : Opcode) : o.mask = BitVec.allOnes 32 <<< o.format.operandWidth := by
  cases o <;> decide

theorem Opcode.matchWord_toNat (o : Opcode) : o.matchWord.toNat = 2 ^ 24 * o.code.toNat := by
  cases o <;> decide

/-- R111: operand bits lie below OP. -/
theorem Opcode.two_pow_operandWidth_le (o : Opcode) : 2 ^ o.format.operandWidth ≤ 2 ^ 24 := by
  cases o <;> decide

theorem Opcode.code_toNat_le (o : Opcode) : o.code.toNat ≤ 0x0D := by
  cases o <;> decide

/-- A mask of all but the `k` low bits clears the remainder by 2 ^ k. -/
theorem toNat_and_allOnes_shiftLeft (w : Word) (k : Nat) :
    (w &&& BitVec.allOnes 32 <<< k).toNat = 2 ^ k * (w.toNat / 2 ^ k) := by
  rw [← BitVec.shiftLeft_ushiftRight, BitVec.toNat_shiftLeft, BitVec.toNat_ushiftRight, Nat.shiftRight_eq_div_pow,
    Nat.shiftLeft_eq, Nat.mul_comm]
  exact Nat.mod_eq_of_lt (Nat.lt_of_le_of_lt (Nat.mul_div_le ..) w.isLt)

/-- R113: a word passes a row's mask test exactly where it lies in the row's interval. -/
theorem Opcode.and_mask_eq_matchWord_iff (o : Opcode) (w : Word) :
    w &&& o.mask = o.matchWord ↔
      2 ^ 24 * o.code.toNat ≤ w.toNat ∧ w.toNat < 2 ^ 24 * o.code.toNat + 2 ^ o.format.operandWidth := by
  rw [← BitVec.toNat_inj, o.mask_eq_shiftLeft, toNat_and_allOnes_shiftLeft, o.matchWord_toNat]
  cases o <;> simp [code, format, Format.operandWidth] <;> omega

/-! ### The fields of a word as numbers (R110, R112) -/

theorem opField_toNat (w : Word) : (opField w).toNat = w.toNat / 2 ^ 24 := by
  rw [opField, BitVec.extractLsb'_toNat, Nat.shiftRight_eq_div_pow]
  omega

@[simp] theorem arityField_eq (w : Word) : arityField w = w.toNat % 2 ^ 8 := rfl

@[simp] theorem symField_eq (w : Word) : symField w = w.toNat % 2 ^ 16 := rfl

@[simp] theorem digField_eq (w : Word) : digField w = w.toNat % 2 ^ 4 := rfl

@[simp] theorem nodeField_eq (w : Word) : nodeField w = w.toNat % 2 ^ 18 := rfl

@[simp] theorem ciField_eq (w : Word) : ciField w = w.toNat / 2 ^ 18 % 2 ^ 4 := by
  rw [ciField, BitVec.extractLsb'_toNat, Nat.shiftRight_eq_div_pow]

/-! ### The decoder (R114) -/

/-- R114: a word with a row's opcode is decoded by that row's mask test alone. -/
theorem decode_of_code {o : Opcode} {w : Word} (h : w.toNat / 2 ^ 24 = o.code.toNat) :
    decode w = if w &&& o.mask = o.matchWord then .command (o.instr w) else .illegal .reservedBit := by
  have hop : opField w = o.code := BitVec.eq_of_toNat_eq ((opField_toNat w).trans h)
  obtain ⟨hrow, -, -⟩ := Laws.EncodingRow.row_of_opcode o
  rw [decode, hop, hrow]

theorem Opcode.ofCode_eq_none {op : BitVec 8} (h : 0x0D < op.toNat) : Opcode.ofCode op = none := by
  unfold Opcode.ofCode
  split
  case h_15 => rfl
  all_goals omega

/-- R115: a word whose opcode no row has is illegal with sub-code 1. -/
theorem decode_of_unassigned {w : Word} (h : 0x0D < w.toNat / 2 ^ 24) : decode w = .illegal .unassignedOpcode := by
  rw [decode, Opcode.ofCode_eq_none (by rwa [opField_toNat])]

/-- R114: the words that decode to a command are those that pass some row's mask test. -/
theorem decode_eq_command_iff {w : Word} {i : Instr} :
    decode w = .command i ↔ ∃ o : Opcode, w &&& o.mask = o.matchWord ∧ o.instr w = i := by
  constructor
  · intro h
    unfold decode at h
    split at h
    · cases h
    · rename_i o _
      split at h
      · exact ⟨o, ‹_›, Decoded.command.inj h⟩
      · cases h
  · rintro ⟨o, hmask, rfl⟩
    obtain ⟨hlow, hhigh⟩ := (o.and_mask_eq_matchWord_iff w).mp hmask
    have hwidth := o.two_pow_operandWidth_le
    rw [decode_of_code (o := o) (by omega), if_pos hmask]

/-! ### The encoder (R111, R117) -/

/-- A command's operands as one number, the value of its word's operand bits (R111). -/
def Instr.operand : Instr → Nat
  | .nop => 0
  | .clear => 0
  | .setArity arity => arity
  | .count sym => sym
  | .build => 0
  | .encSym sym => sym
  | .decStart => 0
  | .decDigit dig => dig
  | .decEnd => 0
  | .errAck => 0
  | .qFreq sym => sym
  | .qCode sym => sym
  | .qNode node => node
  | .qChild node ci => node + 2 ^ 18 * ci

/-- R111, R117: operands that fit their fields fit the operand bits. -/
theorem Instr.operand_lt {i : Instr} (h : i.wellFormed = true) : i.operand < 2 ^ i.opcode.format.operandWidth := by
  cases i <;> simp [wellFormed, operand, opcode, Opcode.format, Format.operandWidth] at h ⊢ <;> omega

theorem Instr.operandBits_eq {i : Instr} (h : i.wellFormed = true) : i.operandBits = BitVec.ofNat 32 i.operand := by
  cases i with
  | qChild node ci =>
    obtain ⟨hnode, hci⟩ : node ≤ 0x3FFFF ∧ ci ≤ 15 := by simpa [wellFormed] using h
    rw [operandBits, ← setWidth_ofNat_of_lt (show ci < 2 ^ 4 by omega), setWidth_shiftLeft_or_ofNat _ (by omega),
      toNat_ofNat_of_lt (by omega), operand]
  | _ => rfl

/-- R111: the word of a well-formed command is its row's match word plus its operands. -/
theorem encode_toNat {i : Instr} (h : i.wellFormed = true) :
    (encode i).toNat = 2 ^ 24 * i.opcode.code.toNat + i.operand := by
  have hoperand := Instr.operand_lt h
  have hwidth := i.opcode.two_pow_operandWidth_le
  have hcode := i.opcode.code_toNat_le
  rw [encode, Opcode.matchWord, Instr.operandBits_eq h, setWidth_shiftLeft_or_ofNat _ (by omega),
    toNat_ofNat_of_lt (by omega), Nat.add_comm]

/-- R112: the fields of a well-formed command's word are its operands. -/
theorem Instr.instr_encode {i : Instr} (h : i.wellFormed = true) : i.opcode.instr (encode i) = i := by
  have hw := encode_toNat h
  cases i <;> simp [wellFormed, operand, opcode, Opcode.code, Opcode.instr] at h hw ⊢ <;> omega

/-! ### The command of a row's word (R112, R113) -/

@[simp] theorem Opcode.opcode_instr (o : Opcode) (w : Word) : (o.instr w).opcode = o := by
  cases o <;> rfl

/-- R112: a field's value fits the field. -/
theorem Opcode.instr_wellFormed (o : Opcode) (w : Word) : (o.instr w).wellFormed = true := by
  cases o <;> simp [instr, Instr.wellFormed] <;> omega

/-- R112: the fields of a row's word make up its operand bits. -/
theorem Opcode.operand_instr (o : Opcode) (w : Word) :
    (o.instr w).operand = w.toNat % 2 ^ o.format.operandWidth := by
  cases o <;> simp [instr, Instr.operand, format, Format.operandWidth] <;> omega

/-- R111, R113: a word that passes a row's mask test is the word of the command its fields give. -/
theorem Opcode.encode_instr {o : Opcode} {w : Word} (h : w &&& o.mask = o.matchWord) : encode (o.instr w) = w := by
  have hvalue := encode_toNat (o.instr_wellFormed w)
  obtain ⟨hlow, hhigh⟩ := (o.and_mask_eq_matchWord_iff w).mp h
  rw [o.operand_instr, o.opcode_instr] at hvalue
  apply BitVec.eq_of_toNat_eq
  rw [hvalue]
  cases o <;> simp [code, format, Format.operandWidth] at hlow hhigh ⊢ <;> omega

/-! ### R113's table -/

/-- Each row written out in `opcodeMap` is an opcode's row of the decoder's tables. -/
theorem exists_opcode_of_mem_opcodeMap {row : MapRow} (h : row ∈ opcodeMap) :
    ∃ o : Opcode, row.op = o.code.toNat ∧ row.matchWord = o.matchWord ∧ row.mask = o.mask ∧
      ∀ w : Word, row.command w.toNat = o.instr w := by
  simp only [opcodeMap, List.mem_cons, List.not_mem_nil, or_false] at h
  obtain rfl | rfl | rfl | rfl | rfl | rfl | rfl | rfl | rfl | rfl | rfl | rfl | rfl | rfl := h
  · exact ⟨.nop, rfl, rfl, rfl, fun _ => rfl⟩
  · exact ⟨.clear, rfl, rfl, rfl, fun _ => rfl⟩
  · exact ⟨.setArity, rfl, rfl, rfl, fun _ => rfl⟩
  · exact ⟨.count, rfl, rfl, rfl, fun _ => rfl⟩
  · exact ⟨.build, rfl, rfl, rfl, fun _ => rfl⟩
  · exact ⟨.encSym, rfl, rfl, rfl, fun _ => rfl⟩
  · exact ⟨.decStart, rfl, rfl, rfl, fun _ => rfl⟩
  · exact ⟨.decDigit, rfl, rfl, rfl, fun _ => rfl⟩
  · exact ⟨.decEnd, rfl, rfl, rfl, fun _ => rfl⟩
  · exact ⟨.errAck, rfl, rfl, rfl, fun _ => rfl⟩
  · exact ⟨.qFreq, rfl, rfl, rfl, fun _ => rfl⟩
  · exact ⟨.qCode, rfl, rfl, rfl, fun _ => rfl⟩
  · exact ⟨.qNode, rfl, rfl, rfl, fun _ => rfl⟩
  · exact ⟨.qChild, rfl, rfl, rfl, fun w => by simp [Opcode.instr]⟩

end Sys2Proof

namespace Sys2Proof.Machine

/-- Settles O2: the encoded word lies in its row's interval, and the row's fields give the operands back. -/
theorem decodeOfEncodeIsTheCommand : Obligations.DecodeOfEncodeIsTheCommand := by
  unfold Obligations.DecodeOfEncodeIsTheCommand
  intro i hwf
  have hmask : encode i &&& i.opcode.mask = i.opcode.matchWord := by
    rw [Opcode.and_mask_eq_matchWord_iff, encode_toNat hwf]
    exact ⟨Nat.le_add_right .., Nat.add_lt_add_left (Instr.operand_lt hwf) _⟩
  exact decode_eq_command_iff.mpr ⟨i.opcode, hmask, Instr.instr_encode hwf⟩

/-- Settles O3: the command was read from the fields of a word of its row. -/
theorem decodedCommandEncodesBack : Obligations.DecodedCommandEncodesBack := by
  unfold Obligations.DecodedCommandEncodesBack
  intro w i h
  obtain ⟨o, hmask, rfl⟩ := decode_eq_command_iff.mp h
  exact ⟨o.instr_wellFormed w, Opcode.encode_instr hmask⟩

/-- Settles O4: an unassigned opcode, or the mask test of the row with the word's opcode. -/
theorem decodeFollowsTheOpcodeMap : Obligations.DecodeFollowsTheOpcodeMap := by
  unfold Obligations.DecodeFollowsTheOpcodeMap
  refine fun w => ⟨decode_of_unassigned, fun row hrow hop => ?_⟩
  obtain ⟨o, hcode, hmatch, hmask, hcommand⟩ := exists_opcode_of_mem_opcodeMap hrow
  rw [decode_of_code (hop.trans hcode), hmatch, hmask, hcommand]
  exact ⟨fun h => if_neg h, fun h => if_pos h⟩

/-- R115: the engine's step on a latched illegal word raises that word's error. -/
theorem step_of_illegal {s : State} {w : Word} {why : Illegal} (hturn : s.nextTurn = .engine) (hbusy : s.busy = true)
    (hcmdl : s.cmdl = .word w) (hdecode : decode w = .illegal why) :
    step s = .next (s.dropTurn.raise (illegalError why)) := by
  simp [step, hturn, takeTurn, engineStep, hbusy, hcmdl, runWord, hdecode]

/-- R141: what an error writes, FIRST's value apart. -/
theorem State.raise_eq (s : State) (e : CmdError) :
    s.raise e = { s with lastCode := e.code, lastSub := e.sub, firstCode := (s.raise e).firstCode,
                         firstSub := (s.raise e).firstSub, sticky := true, busy := false } := by
  have hcode : ¬ e.code = 0#8 := e.code_ne_zero
  simp [State.raise, State.complete, hcode]

/-- Settles O6: the error is that of the word's kind, and an error writes ERR and BUSY alone. -/
theorem illegalWordOnlyReportsItsError : Obligations.IllegalWordOnlyReportsItsError := by
  unfold Obligations.IllegalWordOnlyReportsItsError
  intro s w hturn hbusy hcmdl hillegal
  obtain ⟨hunassigned, hrows⟩ := decodeFollowsTheOpcodeMap w
  obtain hop | ⟨row, hrow, hop, hmask⟩ := hillegal
  · refine ⟨_, step_of_illegal hturn hbusy hcmdl (hunassigned hop), rfl, ?_, State.raise_eq ..⟩
    rw [if_pos hop]
    rfl
  · obtain ⟨hreserved, -⟩ := hrows row hrow hop
    obtain ⟨o, hcode, -⟩ := exists_opcode_of_mem_opcodeMap hrow
    have hassigned : ¬ 0x0D < w.toNat / 2 ^ 24 := by
      have := o.code_toNat_le
      omega
    refine ⟨_, step_of_illegal hturn hbusy hcmdl (hreserved hmask), rfl, ?_, State.raise_eq ..⟩
    rw [if_neg hassigned]
    rfl

/-- Settles O1: each line is well-formed with the word given, so O2 decodes that word to the line. -/
theorem specEncodingExamplesDecode : Obligations.SpecEncodingExamplesDecode := by
  unfold Obligations.SpecEncodingExamplesDecode
  have hlines : ∀ r ∈ encodingExamples, r.1.wellFormed = true ∧ encode r.1 = r.2 := by decide
  intro r hr
  obtain ⟨hwf, hword⟩ := hlines r hr
  exact ⟨hword, hword ▸ decodeOfEncodeIsTheCommand r.1 hwf⟩

end Sys2Proof.Machine
end

section
/-! PROOFS of the family 40_control.md: the engine and the end of a command (R140 to R146). Under the invariant every read of the
node memory finds a value, so a command's pseudocode always ends; how it ends then fixes the error registers. While a command is
held, a turn other than reset and the pop of OUT_DATA reaches no field that HOLD is read from. -/

namespace Sys2Proof.Machine

/-! ### The engine's turn (R140) and completion (R141) -/

theorem step_engine {s : State} (hturn : s.nextTurn = .engine) : step s = engineStep s.dropTurn := by
  rw [step, hturn, takeTurn]

/-- With BUSY = 0 the engine has no step, and the block stays (assumption 3). -/
theorem engineStep_idle {s : State} (hbusy : s.busy = false) : engineStep s = .next s := by
  rw [engineStep, if_neg (Bool.not_eq_true _ ▸ hbusy)]

theorem engineStep_init {s : State} (hbusy : s.busy = true) (hcmdl : s.cmdl = .init) :
    engineStep s = .next s.completeInit := by
  rw [engineStep, if_pos hbusy, hcmdl]

theorem engineStep_word {s : State} {w : Word} (hbusy : s.busy = true) (hcmdl : s.cmdl = .word w) :
    engineStep s = runWord w s := by
  rw [engineStep, if_pos hbusy, hcmdl]

theorem runWord_command {s : State} {w : Word} {i : Instr} (hdecode : decode w = .command i) : runWord w s = exec i s := by
  rw [runWord, hdecode]

/-- Settles O5: the engine's turn by BUSY, by what CMDL holds and by what its word decodes to. -/
theorem engineStepRunsTheLatchedCommand : Obligations.EngineStepRunsTheLatchedCommand := by
  unfold Obligations.EngineStepRunsTheLatchedCommand
  intro s hturn
  refine ⟨fun hbusy => ?_, fun hbusy hcmdl => ?_, fun w => step_of_illegal hturn, fun w => step_of_illegal hturn,
    fun w i hbusy hcmdl hdecode => ?_⟩
  · exact (step_engine hturn).trans (engineStep_idle (s := s.dropTurn) hbusy)
  · exact (step_engine hturn).trans (engineStep_init (s := s.dropTurn) hbusy hcmdl)
  · rw [step_engine hturn, engineStep_word (s := s.dropTurn) hbusy hcmdl, runWord_command hdecode]
    rfl

/-- Settles O7: FIRST and STICKY are written where the code is not OK and STICKY was 0. -/
theorem completionWritesTheErrorRegisters : Obligations.CompletionWritesTheErrorRegisters := by
  unfold Obligations.CompletionWritesTheErrorRegisters
  intro s code sub
  refine ⟨?_, fun hcode hsticky => ?_, fun hcode hsticky => ?_⟩
  · rintro rfl
    simp [State.complete]
  · simp [State.complete, hsticky]
  · have hcode : ¬ code = 0#8 := hcode
    simp [State.complete, hcode, hsticky]

/-- Settles O20: neither command has a check, so each completes with OK on its writes. -/
theorem nopAndErrAckFollowTheirRules : Obligations.NopAndErrAckFollowTheirRules := by
  unfold Obligations.NopAndErrAckFollowTheirRules
  intro s
  refine ⟨?_, ?_⟩
  · rw [exec_eq_finish, commandBody, bodyNop, finish_done, State.complete_ok]
  · rw [exec_eq_finish, commandBody, bodyErrAck, finish_done, State.complete_ok]
    rfl

/-- Settles O21: CLEAR has no check; its FREQ and code table are empty, so every entry reads as absent. -/
theorem clearFollowsItsRule : Obligations.ClearFollowsItsRule := by
  unfold Obligations.ClearFollowsItsRule
  intro s
  have hexec : exec .clear s = .next (s.clear.complete 0 0) := by
    rw [exec_eq_finish, commandBody, bodyClear, finish_done]
  refine ⟨_, hexec, fun _ => rfl, fun _ => rfl, ?_⟩
  rw [State.complete_ok]
  rfl

/-! ### Every read of the node memory finds a value (R39, R41) -/

theorem eq_leaf_of_mem_enumerateLeaves {s : State} {e : Node} (h : e ∈ enumerateLeaves s) : ∃ x f, e = .leaf x f := by
  obtain ⟨x, -, hx⟩ := List.mem_filterMap.mp h
  split at hx
  · cases hx
    exact ⟨_, _, rfl⟩
  · cases hx

section
variable {s : State} (h : s.TreeOk)
include h

theorem State.TreeOk.exists_nodeAt {i : Nat} (hi : i < s.nodeCount.toNat) : ∃ e, s.nodeAt i = some e := by
  obtain ⟨-, -, ⟨hlen, -⟩, -⟩ := h
  exact ⟨_, List.getElem?_eq_getElem (hlen ▸ hi)⟩

/-- R188: the root is the last node. -/
theorem State.TreeOk.root_lt_nodeCount : s.root.toNat < s.nodeCount.toNat := by
  obtain ⟨-, -, -, hlast, -⟩ := h
  omega

/-- R41: the root is a leaf where one symbol is present, and stands above the leaves and dummies otherwise. -/
theorem State.TreeOk.root_ne_dummy : s.nodeAt s.root.toNat ≠ some .dummy := by
  intro hroot
  obtain ⟨-, hmem⟩ | ⟨hk, hleaf, -⟩ | ⟨-, hkind, -⟩ := h.node_cases hroot
  · obtain ⟨x, f, hleaf⟩ := eq_leaf_of_mem_enumerateLeaves hmem
    cases hleaf
  · obtain ⟨-, hone, -, hlast, -, -, hmod, hcount, -⟩ := h
    have hrounds : (s.leafCount.toNat - 1) / (s.treeArity.toNat - 1) = 0 := by
      generalize (s.leafCount.toNat - 1) / (s.treeArity.toNat - 1) = rounds at hcount ⊢
      omega
    have hdiv := Nat.div_add_mod (s.leafCount.toNat - 1) (s.treeArity.toNat - 1)
    rw [hrounds, hmod] at hdiv
    omega
  · cases hkind

/-- R39: an internal node has TREE_ARITY children. -/
theorem State.TreeOk.children_length {i f : Nat} {cs : List NodeIdx} (hi : s.nodeAt i = some (.internal f cs)) :
    cs.length = s.treeArity.toNat := by
  obtain ⟨-, hmem⟩ | ⟨-, -, hdummy⟩ | ⟨-, -, hlen, -⟩ := h.node_cases hi
  · obtain ⟨x, g, hleaf⟩ := eq_leaf_of_mem_enumerateLeaves hmem
    cases hleaf
  · cases hdummy
  · exact hlen

/-- R39: at each position of an internal node stands a child, and it is a node of the tree. -/
theorem State.TreeOk.exists_child {i f ci : Nat} {cs : List NodeIdx} (hi : s.nodeAt i = some (.internal f cs))
    (hci : ci < s.treeArity.toNat) : ∃ c e, cs[ci]? = some c ∧ s.nodeAt c.toNat = some e := by
  have hlt : ci < cs.length := h.children_length hi ▸ hci
  obtain ⟨-, hbelow⟩ := h.parent_index hi (List.getElem_mem hlt)
  obtain ⟨hinside, -⟩ := List.getElem?_eq_some_iff.mp hi
  exact ⟨cs[ci], _, List.getElem?_eq_getElem hlt, List.getElem?_eq_getElem (hbelow.trans hinside)⟩

/-- R251, R253: in an active session the cursor stands at a node that is not a dummy. -/
theorem State.TreeOk.cursor_node (hcursor : s.CursorOk) (hactive : s.decState = .active) :
    ∃ e, s.nodeAt s.cursor.toNat = some e ∧ e ≠ .dummy := by
  obtain ⟨hplace, -⟩ := hcursor
  obtain hroot | hinternal := hplace hactive
  · obtain ⟨e, he⟩ := h.exists_nodeAt h.root_lt_nodeCount
    exact ⟨e, hroot ▸ he, fun hdummy => h.root_ne_dummy (hdummy ▸ he)⟩
  · obtain ⟨e, he, hkind⟩ := Option.map_eq_some_iff.mp hinternal
    refine ⟨e, he, ?_⟩
    rintro rfl
    cases hkind

end

/-! ### Every command's pseudocode ends (R18, I10) -/

/-- The pseudocode read nothing that holds no value. -/
def Body.HasValue : Body → Prop
  | .done _ => True
  | .raise _ _ => True
  | .wait => True
  | .noValue _ => False

theorem Body.HasValue.exists_next {b : Body} (h : b.HasValue) (s : State) : ∃ t, finish s b = .next t := by
  cases b with
  | done t => exact ⟨_, rfl⟩
  | raise t e => exact ⟨_, rfl⟩
  | wait => exact ⟨_, rfl⟩
  | noValue f => exact h.elim

theorem withCode_hasValue {s : State} {sym : Nat} {use : List Digit → Body} (huse : ∀ code, (use code).HasValue) :
    (withCode s sym use).HasValue := by
  obtain ⟨-, hb⟩ | ⟨-, -, hb⟩ | ⟨-, -, -, hb⟩ | ⟨code, -, -, -, hb⟩ := withCode_cases s sym use
  all_goals rw [hb]
  · trivial
  · trivial
  · trivial
  · exact huse code

theorem emitSymbol_hasValue (s : State) (sym : Nat) : (emitSymbol s sym).HasValue := by
  unfold emitSymbol
  split <;> trivial

theorem digitAtLeaf_hasValue (s : State) (sym dig : Nat) : (digitAtLeaf s sym dig).HasValue := by
  unfold digitAtLeaf
  repeat' split
  all_goals trivial

theorem digitToChild_hasValue {s : State} {c : NodeIdx} {e : Node} (he : s.nodeAt c.toNat = some e) :
    (digitToChild s c).HasValue := by
  rw [digitToChild, he]
  cases e with
  | leaf sym f => exact emitSymbol_hasValue s sym
  | dummy => trivial
  | internal f cs => trivial

section
variable {s : State} (hbuilt : s.phase = .built → s.TreeOk ∧ s.CodesOk ∧ s.CursorOk)
include hbuilt

theorem withNode_hasValue {node : Nat} {use : Node → Body}
    (huse : ∀ e, s.TreeOk → s.nodeAt node = some e → (use e).HasValue) : (withNode s node use).HasValue := by
  obtain ⟨-, hb⟩ | ⟨-, -, hb⟩ | ⟨hphase, hnode, hnone, -⟩ | ⟨e, hphase, -, he, hb⟩ := withNode_cases s node use
  · rw [hb]
    trivial
  · rw [hb]
    trivial
  · obtain ⟨htree, -⟩ := hbuilt hphase
    obtain ⟨e, he⟩ := htree.exists_nodeAt hnode
    cases hnone.symm.trans he
  · obtain ⟨htree, -⟩ := hbuilt hphase
    rw [hb]
    exact huse e htree he

/-- R201: a child index that passes its check has a child. -/
theorem bodyQChild_hasValue (node ci : Nat) : (bodyQChild node ci s).HasValue := by
  refine withNode_hasValue hbuilt fun e htree he => ?_
  cases e with
  | leaf sym f => trivial
  | dummy => trivial
  | internal f cs =>
    dsimp only
    split
    · trivial
    · obtain ⟨c, -, hc, -⟩ := htree.exists_child he (Nat.not_le.mp ‹_›)
      rw [hc]
      trivial

/-- R251: an active session's cursor has a node, and a digit that passes its check a child below it. -/
theorem bodyDecDigit_hasValue (dig : Nat) : (bodyDecDigit dig s).HasValue := by
  unfold bodyDecDigit
  split
  · trivial
  · obtain ⟨htree, -, hcursor⟩ := hbuilt (not_not.mp ‹_›)
    split
    · trivial
    · trivial
    · obtain ⟨e, he, hdummy⟩ := htree.cursor_node hcursor ‹_›
      split
      · trivial
      · rw [he]
        cases e with
        | leaf sym f => exact digitAtLeaf_hasValue s sym dig
        | dummy => exact absurd rfl hdummy
        | internal f cs =>
          obtain ⟨c, q, hc, hq⟩ := htree.exists_child he (Nat.not_le.mp ‹_›)
          dsimp only
          rw [hc]
          exact digitToChild_hasValue hq

/-- I10: no command reads a node or a child that holds no value. -/
theorem commandBody_hasValue (i : Instr) : (commandBody i s).HasValue := by
  cases i with
  | nop => trivial
  | clear => trivial
  | setArity n => trivial
  | errAck => trivial
  | count sym =>
    show (bodyCount sym s).HasValue
    unfold bodyCount
    repeat' split
    all_goals trivial
  | build =>
    show (bodyBuild s).HasValue
    unfold bodyBuild
    repeat' split
    all_goals trivial
  | encSym sym =>
    refine withCode_hasValue fun code => ?_
    split <;> trivial
  | decStart =>
    show (bodyDecStart s).HasValue
    unfold bodyDecStart
    split <;> trivial
  | decDigit dig => exact bodyDecDigit_hasValue hbuilt dig
  | decEnd =>
    show (bodyDecEnd s).HasValue
    unfold bodyDecEnd
    repeat' split
    all_goals trivial
  | qFreq sym =>
    show (bodyQFreq sym s).HasValue
    unfold bodyQFreq
    split <;> trivial
  | qCode sym => exact withCode_hasValue fun _ => trivial
  | qNode node => exact withNode_hasValue hbuilt fun _ _ _ => trivial
  | qChild node ci => exact bodyQChild_hasValue hbuilt node ci

end

/-- R141: under the invariant every command answers a next state. -/
theorem exec_exists_next {s : State} (h : s.Inv) (i : Instr) : ∃ t, exec i s = .next t := by
  rw [exec_eq_finish]
  exact (commandBody_hasValue h.runInv.built i).exists_next s

/-! ### What a command leaves in the error registers (R48, R141, R142, R284) -/

/-- R142: during a hold there is no transition. -/
theorem exec_of_waits {i : Instr} {s : State} (h : Waits i s) : exec i s = .next s := by
  rw [exec_eq_finish]
  cases hb : commandBody i s with
  | wait => rfl
  | _ => simp [Waits, hb, Body.isWait] at h

/-- Inversion of `exec` where the command does not wait: it succeeds or fails. -/
theorem exec_next_completes {i : Instr} {s t : State} (h : exec i s = .next t) (hwait : ¬ Waits i s) :
    (∃ u, SuccessWrites s i u ∧ t = u.complete 0 0) ∨ ∃ u e, RaiseWrites s i u ∧ t = u.raise e := by
  have hw := commandBody_writesOf i s
  obtain ⟨u, hb, ht⟩ | ⟨u, e, hb, ht⟩ | ⟨hb, -⟩ := exec_next h
  · exact .inl ⟨u, (hb ▸ hw :), ht⟩
  · exact .inr ⟨u, e, (hb ▸ hw :), ht⟩
  · exact absurd (congrArg Body.isWait hb) hwait

/-- R48, R284: only CLEAR and ERR_ACK write FIRST and STICKY when they succeed. -/
theorem SuccessWrites.firstError {s u : State} {i : Instr} (h : SuccessWrites s i u) (hclear : i ≠ .clear)
    (hack : i ≠ .errAck) : u.sticky = s.sticky ∧ u.firstCode = s.firstCode ∧ u.firstSub = s.firstSub := by
  cases h with
  | clear => exact absurd rfl hclear
  | errAck => exact absurd rfl hack
  | _ => exact ⟨rfl, rfl, rfl⟩

/-- R283: what a command writes before it raises leaves FIRST and STICKY. -/
theorem RaiseWrites.firstError {s u : State} {i : Instr} (h : RaiseWrites s i u) :
    u.sticky = s.sticky ∧ u.firstCode = s.firstCode ∧ u.firstSub = s.firstSub := by
  cases h <;> exact ⟨rfl, rfl, rfl⟩

/-- Settles O8: under the invariant the pseudocode ends; a success leaves the error registers as its writes left them, and a
failure enters them by `complete`. -/
theorem everyCommandCompletesOrHolds : Obligations.EveryCommandCompletesOrHolds := by
  unfold Obligations.EveryCommandCompletesOrHolds
  refine ⟨fun i s h => exec_exists_next h i, fun i s t h => ⟨fun hwait => ?_, fun hwait => ?_⟩⟩
  · cases h.symm.trans (exec_of_waits hwait)
    rfl
  · obtain ⟨u, hdone, rfl⟩ | ⟨u, e, hraise, rfl⟩ := exec_next_completes h hwait
    · refine ⟨rfl, fun hne => absurd rfl hne, fun hne => absurd rfl hne, fun hne => absurd rfl hne,
        fun _ hclear hack => ?_⟩
      rw [State.complete_ok]
      exact hdone.firstError hclear hack
    · obtain ⟨hsticky, hcode, hsub⟩ := hraise.firstError
      have hfailed : ¬ e.code = 0#8 := e.code_ne_zero
      rw [State.raise_eq]
      refine ⟨rfl, fun _ => rfl, fun _ hs => ?_, fun _ hs => ?_, fun hok => absurd hok hfailed⟩
      · simp [hsticky, hs, hfailed]
      · simp [hsticky, hs, hcode, hsub]

/-! ### A held command stays held (R142) -/

/-- R142: the engine's turn leaves a held command as it is. -/
theorem engineStep_of_hold {s : State} (h : s.hold = true) : engineStep s = .next s := by
  obtain ⟨hbusy, w, i, hcmdl, hdecode, hwait⟩ := hold_iff.mp h
  rw [engineStep_word hbusy hcmdl, runWord_command hdecode, exec_of_waits hwait]

/-- R88: a host read away from OUT_DATA pops nothing. -/
theorem hostReadEffect_of_ne {off : Nat} (hoff : off ≠ 0x20) (s : State) :
    hostReadEffect off s = s.drawn ∨ hostReadEffect off s = s := by
  unfold hostReadEffect
  split
  · exact .inr rfl
  · rename_i r hreg
    have hpop : r ≠ .outData := by
      rintro rfl
      unfold Reg.ofOffset at hreg
      split at hreg <;> simp_all
    rw [Reg.readEffect, if_neg hpop]
    split
    · exact .inl rfl
    · exact .inr rfl

/-- R46: OVR, the record of answers and the draws have no part in HOLD. -/
theorem State.hold_hostFields (s : State) (ovr : Bool) (answers : List Word) (draws : Nat) :
    State.hold { s with ovr := ovr, answers := answers, draws := draws } = s.hold :=
  Bool.eq_iff_iff.mpr
    ((holdIsALackOfOutputSpace { s with ovr := ovr, answers := answers, draws := draws }).trans
      (holdIsALackOfOutputSpace s).symm)

/-- R86, R88, R142: what a turn other than reset and the pop of OUT_DATA can write while a command is held. -/
theorem takeTurn_of_hold {s u : State} {t : Turn} (hhold : s.hold = true) (hreset : t ≠ .reset) (hpop : t ≠ .read 0x20 4)
    (h : takeTurn t s = .next u) : ∃ ovr answers draws, u = { s with ovr := ovr, answers := answers, draws := draws } := by
  have hdrop : State.dropTurn { s with turns := t :: s.turns } = s := rfl
  have hstep : step { s with turns := t :: s.turns } = .next u := h
  obtain ⟨-, he⟩ | ⟨off, ht, -, rfl⟩ | ⟨off, v, -, -, rfl⟩ | ⟨ht, -⟩ := step_next hstep
  · cases he.symm.trans (engineStep_of_hold hhold)
    exact ⟨_, _, _, rfl⟩
  · have ht : t = .read off 4 := ht
    rw [hdrop]
    obtain hr | hr := hostReadEffect_of_ne (fun hoff => hpop (hoff ▸ ht)) s
    all_goals rw [hr]
    · exact ⟨_, _, _, rfl⟩
    · exact ⟨_, _, _, rfl⟩
  · obtain ⟨hbusy, -⟩ := hold_iff.mp hhold
    obtain ⟨-, -, hidle⟩ | ⟨hw, -⟩ | ⟨hw, -⟩ := hostWrite_cases off v s
    · cases hbusy.symm.trans hidle
    · exact ⟨_, _, _, hw⟩
    · exact ⟨_, _, _, hw⟩
  · exact absurd ht hreset

/-- Settles O35: such a turn writes nothing that HOLD is read from, and the engine's turn nothing at all. -/
theorem holdLastsUntilOutIsRead : Obligations.HoldLastsUntilOutIsRead := by
  unfold Obligations.HoldLastsUntilOutIsRead
  intro s hhold
  refine ⟨fun t u hreset hpop h => ?_, fun hturn => ?_⟩
  · obtain ⟨ovr, answers, draws, rfl⟩ := takeTurn_of_hold hhold hreset hpop h
    obtain ⟨hbusy, -⟩ := hold_iff.mp hhold
    exact ⟨(s.hold_hostFields ovr answers draws).trans hhold, hbusy, rfl, rfl⟩
  · have hdrop : s.dropTurn.hold = true := (s.hold_turns _).trans hhold
    exact (step_engine hturn).trans (engineStep_of_hold hdrop)

end Sys2Proof.Machine
end

section
/-! PROOFS of the family 41_frequency_table.md: COUNT, Q_FREQ (R160, R161), the order of counts (R163) and the bound on the sums
of the tree (R162, R192). The bound: every node but the root is the child of exactly one node, so the NFREQ of all nodes sum to
TOTAL, from the leaves, and to that of every child once more, in its parent; without the children TOTAL is left for the root.
No child exceeds its parent, so none exceeds the root. -/

namespace Sys2Proof.Machine

/-! ### COUNT and Q_FREQ with their checks passed (R160, R161) -/

section
variable {s : State} {sym : Nat}

theorem State.symInRange_of_lt (h : sym < s.params.symCount) : s.symInRange sym = true := decide_eq_true h

theorem State.symInRange_of_le (h : s.params.symCount ≤ sym) : s.symInRange sym = false :=
  decide_eq_false (Nat.not_lt.mpr h)

/-- R160: with its checks passed, COUNT completes with OK on its writes. -/
theorem exec_count_of_checks (hphase : s.phase = .idle) (hsym : sym < s.params.symCount)
    (htotal : s.total ≠ s.params.freqMax) : exec (.count sym) s = .next ((s.countSym sym).complete 0 0) := by
  simp [exec_eq_finish, commandBody, bodyCount, hphase, State.symInRange_of_lt hsym, htotal]

end

/-- Settles O24: the symbol's range is the one check, in either phase. -/
theorem qFreqFollowsItsRule : Obligations.QFreqFollowsItsRule := by
  unfold Obligations.QFreqFollowsItsRule
  intro s sym
  refine ⟨fun hsym => ?_, fun hsym => ?_⟩
  · simp [exec_eq_finish, commandBody, bodyQFreq, State.symInRange_of_le hsym, CmdError.code, CmdError.sub]
  · have hdone : exec (.qFreq sym) s = .next ((s.setRes (BitVec.ofNat 32 (s.freqAt sym)) 0).complete 0 0) := by
      simp [exec_eq_finish, commandBody, bodyQFreq, State.symInRange_of_lt hsym]
    rw [hdone, State.complete_ok]
    rfl

/-! ### The counts and their sum (R35, R37) -/

section
variable {s : State} (h : s.FreqOk)
include h

/-- R35: a symbol out of range is not counted. -/
theorem State.FreqOk.freqAt_eq_zero {x : Nat} (hx : s.params.symCount ≤ x) : s.freqAt x = 0 := by
  obtain ⟨hwf, hrange, -⟩ := h
  obtain ⟨hmem, -⟩ := Bool.and_eq_true_iff.mp hwf
  rw [State.freqAt]
  cases hread : Memory.read s.freq x with
  | none => rfl
  | some v => exact absurd (hrange _ ((Memory.mem_iff_read hmem x v).mpr hread)) (Nat.not_lt.mpr hx)

/-- R162: one count is at most the sum of all. -/
theorem State.FreqOk.freqAt_le_total (x : Nat) : s.freqAt x ≤ s.total := by
  by_cases hx : x < s.params.symCount
  · obtain ⟨-, -, -, hsum, -⟩ := h
    exact hsum ▸ List.le_sum_of_mem (List.mem_map_of_mem (List.mem_range.mpr hx))
  · simp [h.freqAt_eq_zero (Nat.not_lt.mp hx)]

/-- R37, R184: the leaves BUILD starts from hold every count, so their NFREQ sum to TOTAL. -/
theorem State.FreqOk.sum_enumerateLeaves : ((enumerateLeaves s).map Node.nfreq).sum = s.total := by
  obtain ⟨-, -, -, hsum, -⟩ := h
  rw [hsum, enumerateLeaves]
  induction List.range s.params.symCount with
  | nil => rfl
  | cons x rest ih =>
    by_cases h0 : s.freqAt x = 0
    · simpa [h0] using ih
    · simpa [h0, Node.nfreq] using ih

end

/-- Settles O23: by its checks in order; the last leaves TOTAL below FREQ_MAX, and with it every count. -/
theorem countFollowsItsRule : Obligations.CountFollowsItsRule := by
  unfold Obligations.CountFollowsItsRule
  intro s sym
  refine ⟨fun hphase => ?_, fun hphase hsym => ?_, fun hphase hsym htotal => ?_, fun hphase hsym htotal => ?_⟩
  · simp [exec_eq_finish, commandBody, bodyCount, hphase, CmdError.code, CmdError.sub]
  · simp [exec_eq_finish, commandBody, bodyCount, hphase, State.symInRange_of_le hsym, CmdError.code, CmdError.sub]
  · simp [exec_eq_finish, commandBody, bodyCount, hphase, State.symInRange_of_lt hsym, htotal, CmdError.code, CmdError.sub]
  · refine ⟨_, exec_count_of_checks hphase hsym htotal, s.countSym_freqAt sym, ?_, fun hfreq => ?_⟩
    · rw [State.complete_ok]
      rfl
    · have hle := hfreq.freqAt_le_total sym
      obtain ⟨-, -, -, -, hmax⟩ := hfreq
      exact ⟨hle, Nat.lt_of_le_of_ne hmax htotal⟩

/-! ### Two counts (R163) -/

/-- Writes at different indices commute. -/
theorem Memory.write_comm {α : Type} (m : Memory α) {j k : Nat} (v w : α) (h : j ≠ k) :
    Memory.write (Memory.write m j v) k w = Memory.write (Memory.write m k w) j v := by
  wlog hjk : j < k generalizing j k v w
  · exact (this w v h.symm (by omega)).symm
  induction m with
  | nil => simp [Memory.write, hjk, h.symm, hjk.not_gt]
  | cons e rest ih =>
    obtain ⟨a, x⟩ := e
    have hkj := hjk.not_gt
    obtain hja | rfl | haj := lt_trichotomy j a
    · obtain hka | rfl | hak := lt_trichotomy k a
      · simp [Memory.write, *, h.symm]
      · simp [Memory.write, *, h.symm]
      · simp [Memory.write, *, h.symm, hak.not_gt, hak.ne']
    · simp [Memory.write, *, h.symm]
    · have hak := haj.trans hjk
      simp [Memory.write, *, hak.not_gt, hak.ne', haj.not_gt, haj.ne']

/-- R160: the writes of two COUNTs do not depend on their order. -/
theorem State.countSym_comm (s : State) (a b : Nat) : (s.countSym a).countSym b = (s.countSym b).countSym a := by
  by_cases hab : a = b
  · rw [hab]
  · have hba : b ≠ a := Ne.symm hab
    have hfreq : ((s.countSym a).countSym b).freq = ((s.countSym b).countSym a).freq := by
      simp only [State.countSym_freq, State.countSym_freqAt, if_neg hab, if_neg hba, freqWrite,
        if_neg (Nat.succ_ne_zero _)]
      exact Memory.write_comm _ _ _ hab
    have hkcount : ((s.countSym a).countSym b).kcount = ((s.countSym b).countSym a).kcount := by
      simp only [State.countSym_kcount, State.countSym_freqAt, if_neg hab, if_neg hba]
      split <;> split <;> rfl
    exact congrArg₂ (fun f k => { s with freq := f, kcount := k, total := s.total + 1 + 1 }) hfreq hkcount

/-- R160, R163: two COUNTs that the overflow check lets pass leave the writes of both. -/
theorem execAll_count_count {s : State} {a b : Nat} (hphase : s.phase = .idle) (ha : a < s.params.symCount)
    (hb : b < s.params.symCount) (htotal : s.total + 2 ≤ s.params.freqMax) :
    execAll [.count a, .count b] s = .next (((s.countSym a).countSym b).complete 0 0) := by
  have hfirst : exec (.count a) s = .next ((s.countSym a).complete 0 0) := exec_count_of_checks hphase ha (by omega)
  have hsecond : exec (.count b) ((s.countSym a).complete 0 0) = .next (((s.countSym a).countSym b).complete 0 0) := by
    rw [exec_count_of_checks (s := (s.countSym a).complete 0 0) hphase hb (by simp; omega), State.complete_ok,
      State.complete_ok, State.complete_ok]
    rfl
  simp only [execAll, hfirst, hsecond]

/-- Settles O43: both orders complete, each with the writes of both counts. -/
theorem countsCommute : Obligations.CountsCommute := by
  unfold Obligations.CountsCommute
  intro s t a b _ ht hphase htotal ha hb
  rw [execAll_count_count hphase ha hb htotal, State.countSym_comm] at ht
  rw [execAll_count_count hphase hb ha htotal, ht]

/-! ### The sums of the tree (R41, R192) -/

theorem nfreqAt_of_getElem? {nodes : List Node} {c : NodeIdx} {e : Node} (h : nodes[c.toNat]? = some e) :
    nfreqAt nodes c = e.nfreq := by
  rw [nfreqAt, h]
  rfl

/-- The values of all children of a list of nodes, summed node by node. -/
theorem sum_map_children (f : NodeIdx → Nat) (nodes : List Node) :
    ((nodes.flatMap Node.children).map f).sum = (nodes.map fun e => (e.children.map f).sum).sum := by
  rw [List.map_flatMap, List.flatMap, List.sum_flatten, List.map_map]
  rfl

section
variable {s : State} (h : s.TreeOk)
include h

/-- R188: the root is the last node. -/
theorem State.TreeOk.length_nodes : s.nodes.length = s.root.toNat + 1 := by
  obtain ⟨-, -, ⟨hlen, -⟩, hlast, -⟩ := h
  rw [hlen, hlast]

/-- R40: every node of the tree has an index that fits its field. -/
theorem State.TreeOk.exists_index {e : Node} (he : e ∈ s.nodes) :
    ∃ c : NodeIdx, s.nodes[c.toNat]? = some e ∧ c.toNat ≤ s.root.toNat := by
  obtain ⟨i, hi⟩ := List.mem_iff_getElem?.mp he
  obtain ⟨hlt, -⟩ := List.getElem?_eq_some_iff.mp hi
  have hlen := h.length_nodes
  have hread : (BitVec.ofNat 18 i).toNat = i := toNat_ofNat_of_lt (by omega)
  exact ⟨BitVec.ofNat 18 i, by rw [hread, hi], by omega⟩

/-- R41: a tree's nodes are its leaves, its dummies and its internal nodes, in this order. -/
theorem State.TreeOk.nodes_eq : s.nodes =
    enumerateLeaves s ++ (List.replicate s.pad.toNat .dummy ++ s.nodes.drop s.leafCount.toNat) := by
  obtain ⟨-, -, -, -, -, hleaf, -, -, hleaves, hdummies, -⟩ := h
  rw [← hleaves, ← hdummies, hleaf, ← List.drop_drop, List.take_append_drop, List.take_append_drop]

/-- R41(d): the NFREQ of an internal node is the sum of its children's. -/
theorem State.TreeOk.nfreq_eq_sum {e : Node} (he : e ∈ s.nodes.drop s.leafCount.toNat) :
    e.nfreq = (e.children.map (nfreqAt s.nodes)).sum := by
  obtain ⟨i, hi⟩ := List.mem_iff_getElem?.mp he
  obtain ⟨-, -, -, -, -, -, -, -, -, -, hinternal, -⟩ := h
  obtain ⟨-, -, -, hsum⟩ := hinternal (e, s.leafCount.toNat + i) (List.mk_add_mem_zipIdx_iff_getElem?.mpr hi)
  exact hsum

/-- R41(c): every node other than the root is a child once. -/
theorem State.TreeOk.count_child {c : NodeIdx} (hc : c.toNat < s.root.toNat) :
    (s.nodes.flatMap Node.children).count c = 1 := by
  obtain ⟨-, -, -, -, -, -, -, -, -, -, -, honce⟩ := h
  have hone := honce c.toNat hc
  rwa [BitVec.ofNat_toNat, BitVec.setWidth_eq] at hone

/-- R41(c), (d): the children in a tree are its nodes other than the root. -/
theorem State.TreeOk.mem_children_iff {c : NodeIdx} :
    c ∈ s.nodes.flatMap Node.children ↔ c.toNat < s.root.toNat := by
  constructor
  · intro hc
    obtain ⟨e, he, hc⟩ := List.mem_flatMap.mp hc
    obtain ⟨q, hq, hroot⟩ := h.exists_index he
    obtain ⟨-, hbelow⟩ := h.parent_index hq hc
    exact hbelow.trans_le hroot
  · exact fun hc => List.count_pos_iff.mp (h.count_child hc ▸ Nat.one_pos)

/-- R41(c): no node is a child twice. -/
theorem State.TreeOk.children_nodup : (s.nodes.flatMap Node.children).Nodup := by
  refine List.nodup_iff_count_le_one.mpr fun c => ?_
  by_cases hc : c ∈ s.nodes.flatMap Node.children
  · exact (h.count_child (h.mem_children_iff.mp hc)).le
  · rw [List.count_eq_zero.mpr hc]
    exact Nat.zero_le 1

/-- R41(c), (d): the children in a tree are the indices below the root, each once. -/
theorem State.TreeOk.children_perm :
    (s.nodes.flatMap Node.children).Perm ((List.range s.root.toNat).map (BitVec.ofNat 18)) := by
  have hread : ∀ i < s.root.toNat, (BitVec.ofNat 18 i).toNat = i := fun i hi =>
    toNat_ofNat_of_lt (hi.trans s.root.isLt)
  have hnodup : ((List.range s.root.toNat).map (BitVec.ofNat 18)).Nodup := by
    refine List.nodup_range.map_on fun x hx y hy hxy => ?_
    rw [← hread x (List.mem_range.mp hx), hxy, hread y (List.mem_range.mp hy)]
  refine (List.perm_ext_iff_of_nodup h.children_nodup hnodup).mpr fun c => h.mem_children_iff.trans ?_
  simp only [List.mem_map, List.mem_range]
  constructor
  · exact fun hc => ⟨c.toNat, hc, by simp⟩
  · rintro ⟨i, hi, rfl⟩
    rwa [hread i hi]

/-- The NFREQ of all nodes, taken by index. -/
theorem State.TreeOk.map_nfreq_eq :
    s.nodes.map Node.nfreq = (List.range (s.root.toNat + 1)).map fun i => nfreqAt s.nodes (BitVec.ofNat 18 i) := by
  have hlen := h.length_nodes
  refine List.ext_getElem (by simp [hlen]) fun i hi _ => ?_
  rw [List.length_map] at hi
  have hread : (BitVec.ofNat 18 i).toNat = i := toNat_ofNat_of_lt (by omega)
  have hnode : s.nodes[(BitVec.ofNat 18 i).toNat]? = some s.nodes[i] := by rw [hread, List.getElem?_eq_getElem hi]
  rw [List.getElem_map, List.getElem_map, List.getElem_range, nfreqAt_of_getElem? hnode]

/-- R39, R41(d): the NFREQ of all nodes are the leaves' counts, and each child's once more in its parent. -/
theorem State.TreeOk.sum_nfreq (hfreq : s.FreqOk) : (s.nodes.map Node.nfreq).sum =
    s.total + ((s.nodes.flatMap Node.children).map (nfreqAt s.nodes)).sum := by
  have hleaves : ((enumerateLeaves s).map fun e => (e.children.map (nfreqAt s.nodes)).sum).sum = 0 := by
    refine List.sum_eq_zero fun x hx => ?_
    obtain ⟨e, he, rfl⟩ := List.mem_map.mp hx
    rw [children_eq_nil_of_mem_enumerateLeaves he]
    rfl
  have hinternal : (s.nodes.drop s.leafCount.toNat).map Node.nfreq =
      (s.nodes.drop s.leafCount.toNat).map fun e => (e.children.map (nfreqAt s.nodes)).sum :=
    List.map_congr_left fun e he => h.nfreq_eq_sum he
  have hdummy : Node.dummy.nfreq = 0 ∧ Node.dummy.children = [] := ⟨rfl, rfl⟩
  have hnodes := h.nodes_eq
  rw [sum_map_children]
  generalize nfreqAt s.nodes = f at *
  generalize s.nodes.drop s.leafCount.toNat = internal at *
  rw [hnodes]
  simp [hleaves, hinternal, hdummy, hfreq.sum_enumerateLeaves]

/-- R192: the root's NFREQ is TOTAL. -/
theorem State.TreeOk.nfreqAt_root (hfreq : s.FreqOk) : nfreqAt s.nodes s.root = s.total := by
  have hsum := h.sum_nfreq hfreq
  rw [h.map_nfreq_eq, List.range_succ, List.map_append, List.sum_append, (h.children_perm.map _).sum_eq,
    List.map_map] at hsum
  simpa [Function.comp_def, Nat.add_comm] using hsum

/-- R41(c), (d): a node other than the root has a parent, of larger index. -/
theorem State.TreeOk.exists_parent {c : NodeIdx} (hc : c.toNat < s.root.toNat) : ∃ (q : NodeIdx) (p : Node),
    s.nodes[q.toNat]? = some p ∧ c ∈ p.children ∧ c.toNat < q.toNat ∧ q.toNat ≤ s.root.toNat := by
  obtain ⟨p, hp, hchild⟩ := List.mem_flatMap.mp (h.mem_children_iff.mpr hc)
  obtain ⟨q, hq, hroot⟩ := h.exists_index hp
  obtain ⟨-, hbelow⟩ := h.parent_index hq hchild
  exact ⟨q, p, hq, hchild, hbelow, hroot⟩

/-- R39: no child's NFREQ exceeds its parent's. -/
theorem State.TreeOk.nfreqAt_child_le {q : Nat} {p : Node} {c : NodeIdx} (hp : s.nodes[q]? = some p)
    (hc : c ∈ p.children) : nfreqAt s.nodes c ≤ p.nfreq := by
  obtain ⟨hq, -⟩ := h.parent_index hp hc
  have hmem : p ∈ s.nodes.drop s.leafCount.toNat :=
    List.mem_of_getElem? (i := q - s.leafCount.toNat) (by rw [List.getElem?_drop, Nat.add_sub_cancel' hq, hp])
  rw [h.nfreq_eq_sum hmem]
  exact List.le_sum_of_mem (List.mem_map_of_mem hc)

/-- R192: no NFREQ exceeds TOTAL: it is the root's, or at most that of a parent nearer to the root. -/
theorem State.TreeOk.nfreqAt_le_total (hfreq : s.FreqOk) (c : NodeIdx) (hc : c.toNat ≤ s.root.toNat) :
    nfreqAt s.nodes c ≤ s.total := by
  induction hgap : s.root.toNat - c.toNat using Nat.strong_induction_on generalizing c with
  | _ gap ih =>
    obtain heq | hlt := Nat.eq_or_lt_of_le hc
    · rw [BitVec.eq_of_toNat_eq heq, h.nfreqAt_root hfreq]
    · obtain ⟨q, p, hp, hchild, hbelow, hq⟩ := h.exists_parent hlt
      calc nfreqAt s.nodes c
        _ ≤ p.nfreq := h.nfreqAt_child_le hp hchild
        _ = nfreqAt s.nodes q := (nfreqAt_of_getElem? hp).symm
        _ ≤ s.total := ih _ (by omega) q hq rfl

theorem State.TreeOk.nfreq_le_total (hfreq : s.FreqOk) {e : Node} (he : e ∈ s.nodes) : e.nfreq ≤ s.total := by
  obtain ⟨c, hc, hroot⟩ := h.exists_index he
  exact nfreqAt_of_getElem? hc ▸ h.nfreqAt_le_total hfreq c hroot

end

/-- Settles O44: in phase IDLE there are no nodes, and in phase BUILT the tree bounds them. -/
theorem noFrequencyExceedsTotal : Obligations.NoFrequencyExceedsTotal := by
  unfold Obligations.NoFrequencyExceedsTotal
  rintro s ⟨-, hfreq, -, -, hidle, hbuilt⟩
  have ⟨_, _, _, _, hmax⟩ := hfreq
  refine ⟨hmax, hfreq.freqAt_le_total, fun e he => ?_, fun hphase => ?_⟩
  · cases hphase : s.phase with
    | idle =>
      obtain ⟨-, hempty, -⟩ := hidle hphase
      rw [hempty] at he
      cases he
    | built =>
      obtain ⟨htree, -⟩ := hbuilt hphase
      exact htree.nfreq_le_total hfreq he
  · obtain ⟨htree, -⟩ := hbuilt hphase
    obtain ⟨e, he⟩ := htree.exists_nodeAt htree.root_lt_nodeCount
    rw [← htree.nfreqAt_root hfreq, nfreqAt_of_getElem? he]
    exact congrArg (Option.map Node.nfreq) he

end Sys2Proof.Machine
end

section
/-! PROOFS of the family 42_tree_builder.md, first part: the queue and the merge (R182 to R188), and the commands (R180, R190,
R191, R200, R201). The queue's tree is the stable sort's by a simulation: the sorted list of a round is the queue, because each
holds the same keys and a stable sort leaves keys of one frequency in the order of their node indices, in which they stand. -/

namespace Sys2Proof.Machine

/-! ### The order of the queue (R43, R182) -/

theorem PQKey.lt_iff (a b : PQKey) : a.lt b = true ↔ a.freq < b.freq ∨ (a.freq = b.freq ∧ a.node < b.node) := by
  simp [PQKey.lt]

/-- The keys stand in strictly rising order (R43). -/
abbrev KeysRise (q : List PQKey) : Prop := q.Pairwise fun a b => a.lt b = true

/-- R182: a key of a new node is inserted where the keys below it end. -/
theorem pqInsert_keysRise {k : PQKey} {q : List PQKey} (h : KeysRise q) (hnew : ∀ x ∈ q, x.node ≠ k.node) :
    KeysRise (pqInsert k q) := by
  induction q with
  | nil => exact List.pairwise_singleton ..
  | cons x rest ih =>
    obtain ⟨hx, hrest⟩ := List.pairwise_cons.mp h
    have hne := hnew x (List.mem_cons_self ..)
    unfold pqInsert
    split
    · rename_i hkx
      refine List.pairwise_cons.mpr ⟨fun y hy => ?_, h⟩
      obtain rfl | hy := List.mem_cons.mp hy
      · exact hkx
      · have hxy := hx y hy
        rw [PQKey.lt_iff] at *
        omega
    · rename_i hkx
      refine List.pairwise_cons.mpr ⟨fun y hy => ?_, ih hrest fun y hy => hnew y (List.mem_cons_of_mem _ hy)⟩
      obtain rfl | hy := List.mem_cons.mp ((pqInsert_perm k rest).mem_iff.mp hy)
      · rw [PQKey.lt_iff] at *
        omega
      · exact hx y hy

/-- Settles O47: the two facts that the merge uses of an insertion. -/
theorem queueReleasesTheSmallestKey : Obligations.QueueReleasesTheSmallestKey := by
  unfold Obligations.QueueReleasesTheSmallestKey
  exact fun k q hq hnew => ⟨pqInsert_keysRise hq hnew, pqInsert_perm k q⟩

/-! ### The rounds of the merge (R187, R188) -/

/-- Settles O48: the shape that every round keeps, with no round left. -/
theorem mergeStopsWithOneRoot : Obligations.MergeStopsWithOneRoot := by
  unfold Obligations.MergeStopsWithOneRoot
  intro n nodes hn hlen hmod
  have hne : nodes ≠ [] := List.length_pos_iff.mp (by omega)
  obtain ⟨hshape, -⟩ := merge_shape_and (P := fun _ => True) hn hne hmod (fun _ _ _ _ => trivial) trivial
  exact ⟨hshape.size, (List.prefix_iff_eq_take.mp hshape.kept).symm, hshape.queue_eq⟩

/-! ### The queue and the stable sort (R183) -/

/-- Keys of one frequency stand in the order of their node indices: what a stable sort by frequency preserves. -/
abbrev TiesInNodeOrder (q : List PQKey) : Prop := q.Pairwise fun a b => a.freq = b.freq → a.node < b.node

/-- R183: a stable sort by frequency puts such keys in the order of R182. -/
theorem mergeSort_keysRise {q : List PQKey} (h : TiesInNodeOrder q) :
    KeysRise (q.mergeSort fun x y => decide (x.freq ≤ y.freq)) := by
  have htrans : ∀ a b c : PQKey, decide (a.freq ≤ b.freq) = true → decide (b.freq ≤ c.freq) = true →
      decide (a.freq ≤ c.freq) = true := by
    simp only [decide_eq_true_eq]
    exact fun a b c => Nat.le_trans
  have htotal : ∀ a b : PQKey, (decide (a.freq ≤ b.freq) || decide (b.freq ≤ a.freq)) = true := by
    simp only [Bool.or_eq_true, decide_eq_true_eq]
    exact fun a b => Nat.le_total ..
  induction q with
  | nil => simp
  | cons k rest ih =>
    obtain ⟨hk, hrest⟩ := List.pairwise_cons.mp h
    obtain ⟨low, high, hsort, hsortRest, hlow⟩ := List.mergeSort_cons htrans htotal k rest
    have hfreq := List.pairwise_mergeSort htrans htotal (k :: rest)
    obtain ⟨hlowRise, hhighRise, hcross⟩ := List.pairwise_append.mp (hsortRest ▸ ih hrest)
    rw [hsort] at hfreq ⊢
    obtain ⟨-, hfreq, -⟩ := List.pairwise_append.mp hfreq
    obtain ⟨hhigh, -⟩ := List.pairwise_cons.mp hfreq
    refine List.pairwise_append.mpr ⟨hlowRise, List.pairwise_cons.mpr ⟨fun x hx => ?_, hhighRise⟩, fun x hx y hy => ?_⟩
    · have hmem : x ∈ rest := (List.mergeSort_perm rest _).mem_iff.mp (hsortRest ▸ List.mem_append_right _ hx)
      have hle : k.freq ≤ x.freq := by simpa using hhigh x hx
      have htie := hk x hmem
      rw [PQKey.lt_iff]
      omega
    · obtain rfl | hy := List.mem_cons.mp hy
      · have hlt : x.freq < y.freq := by simpa using hlow x hx
        exact (PQKey.lt_iff ..).mpr (.inl hlt)
      · exact hcross x hx y hy

/-- Two lists of the same keys in rising order are one. -/
theorem KeysRise.eq_of_perm {p q : List PQKey} (hp : KeysRise p) (hq : KeysRise q) (h : p.Perm q) : p = q := by
  refine h.eq_of_pairwise (fun a b _ _ hab hba => ?_) hp hq
  rw [PQKey.lt_iff] at hab hba
  omega

/-- The merge with the queue and the document's merge have come equally far: they hold the same nodes and the same keys, the
one in rising order, the other in an order that a stable sort turns into it. -/
structure SameMerge (a b : Arena) : Prop where
  nodes : a.nodes = b.nodes
  keys : a.pq.Perm b.pq
  rise : KeysRise a.pq
  ties : TiesInNodeOrder b.pq
  below : ∀ k ∈ b.pq, k.node < b.nodes.length

theorem nodeKeys_pairwise_node (nodes : List Node) : (nodeKeys nodes).Pairwise fun a b => a.node < b.node :=
  List.pairwise_map.mp (nodeKeys_map_node nodes ▸ List.pairwise_lt_range)

/-- R187: a queue is made of keys of different nodes. -/
theorem pqOf_keysRise {keys : List PQKey} (h : keys.Pairwise fun a b => a.node < b.node) : KeysRise (pqOf keys) := by
  induction keys with
  | nil => exact .nil
  | cons k rest ih =>
    obtain ⟨hk, hrest⟩ := List.pairwise_cons.mp h
    exact pqInsert_keysRise (ih hrest) fun x hx => (hk x ((pqOf_perm rest).mem_iff.mp hx)).ne'

/-- R183: both start from the node list in index order. -/
theorem sameMerge_start (nodes : List Node) : SameMerge ⟨nodes, pqOf (nodeKeys nodes)⟩ ⟨nodes, nodeKeys nodes⟩ where
  nodes := rfl
  keys := pqOf_perm _
  rise := pqOf_keysRise (nodeKeys_pairwise_node nodes)
  ties := (nodeKeys_pairwise_node nodes).imp fun {x y} (h : x.node < y.node) _ => h
  below k hk := by
    have hnode : k.node ∈ (nodeKeys nodes).map (·.node) := List.mem_map_of_mem hk
    rw [nodeKeys_map_node] at hnode
    exact List.mem_range.mp hnode

/-- R183: the sorted list of a round is the queue. -/
theorem SameMerge.mergeSort_eq {a b : Arena} (h : SameMerge a b) :
    (b.pq.mergeSort fun x y => decide (x.freq ≤ y.freq)) = a.pq :=
  (mergeSort_keysRise h.ties).eq_of_perm h.rise ((List.mergeSort_perm ..).trans h.keys.symm)

/-- R183, R186: a round takes the same keys from both, and its parent, the newest node, comes after every tie. -/
theorem SameMerge.round {a b : Arena} (h : SameMerge a b) (n : Nat) : SameMerge (mergeRound n a) (sortRound n b) := by
  have hbelow : ∀ k ∈ a.pq.drop n, k.node < a.nodes.length := fun k hk =>
    h.nodes ▸ h.below k (h.keys.mem_iff.mp (List.mem_of_mem_drop hk))
  have hrise : KeysRise (a.pq.drop n) := h.rise.sublist (List.drop_sublist ..)
  simp only [mergeRound, sortRound, h.mergeSort_eq, ← h.nodes]
  refine ⟨rfl, (pqInsert_perm ..).trans (List.perm_append_singleton ..).symm,
    pqInsert_keysRise hrise fun x hx => (hbelow x hx).ne, ?_, fun k hk => ?_⟩
  · refine List.pairwise_append.mpr ⟨hrise.imp fun {x y} hxy hfreq => ?_, List.pairwise_singleton .., fun x hx y hy _ => ?_⟩
    · rw [PQKey.lt_iff] at hxy
      omega
    · rw [List.mem_singleton.mp hy]
      exact hbelow x hx
  · simp only [List.length_append, List.length_singleton]
    obtain hk | hk := List.mem_append.mp hk
    · exact Nat.lt_succ_of_lt (hbelow k hk)
    · rw [List.mem_singleton.mp hk]
      exact Nat.lt_succ_self _

/-- R183: both loops make the same nodes, round by round. -/
theorem SameMerge.loop_nodes {a b : Arena} (h : SameMerge a b) (n fuel : Nat) :
    (mergeLoop n fuel a).nodes = (sortLoop n fuel b).nodes := by
  induction fuel generalizing a b with
  | zero => exact h.nodes
  | succ fuel ih =>
    rw [mergeLoop, sortLoop, h.keys.length_eq]
    split
    · exact ih (h.round n)
    · exact h.nodes

/-- Settles O49: the simulation of the document's rounds by the queue's. -/
theorem queueTreeIsTheStableSortTree : Obligations.QueueTreeIsTheStableSortTree := by
  unfold Obligations.QueueTreeIsTheStableSortTree
  exact fun n nodes => (sameMerge_start nodes).loop_nodes n nodes.length

/-! ### The leaves and the padding (R184, R185) -/

/-- R184: a leaf stands for a present symbol, with its count. -/
theorem mem_enumerateLeaves {s : State} {e : Node} :
    e ∈ enumerateLeaves s ↔ ∃ x, x < s.params.symCount ∧ s.freqAt x ≠ 0 ∧ e = .leaf x (s.freqAt x) := by
  simp only [enumerateLeaves, List.mem_filterMap, List.mem_range, Option.ite_none_right_eq_some, Option.some.injEq,
    eq_comm (b := e)]

/-- Settles O45: the enumeration keeps the order in which it passes over the symbols. -/
theorem leavesArePresentSymbolsInOrder : Obligations.LeavesArePresentSymbolsInOrder := by
  unfold Obligations.LeavesArePresentSymbolsInOrder
  refine fun s => ⟨fun e => mem_enumerateLeaves, ?_⟩
  refine List.pairwise_filterMap.mpr (List.pairwise_lt_range.imp fun {x y} (hxy : x < y) a ha b hb => ?_)
  rw [Option.ite_none_right_eq_some] at ha hb
  obtain ⟨-, ha⟩ := ha
  obtain ⟨-, hb⟩ := hb
  exact ⟨x, y, _, _, (Option.some.inj ha).symm, (Option.some.inj hb).symm, hxy⟩

/-- R185: the padding is the formula of the document. -/
theorem padCount_eq_mod {k n : Nat} (hn : 2 ≤ n) : padCount k n = ((n - 1) - (k - 1) % (n - 1)) % (n - 1) := by
  have hlt : (k - 1) % (n - 1) < n - 1 := Nat.mod_lt _ (by omega)
  simp only [padCount]
  split
  · rename_i hzero
    rw [hzero, Nat.sub_zero, Nat.mod_self]
  · rw [Nat.mod_eq_of_lt (a := (n - 1) - (k - 1) % (n - 1)) (by omega)]

/-- Settles O46: by the formula's remainder. -/
theorem paddingMakesTheMergeExact : Obligations.PaddingMakesTheMergeExact := by
  unfold Obligations.PaddingMakesTheMergeExact
  intro k n hk hn
  have hle := padCount_le k n
  exact ⟨padCount_eq_mod hn, padCount_mod (by omega) hn, hle, fun hbinary => by omega⟩

/-! ### The commands (R180, R190, R191, R200, R201) -/

/-- Settles O22: SET_ARITY has no check, and an 8-bit operand is stored as it is. -/
theorem setArityFollowsItsRule : Obligations.SetArityFollowsItsRule := by
  unfold Obligations.SetArityFollowsItsRule
  intro s n
  have hstored : s.setArity n.toNat = { s with arity := n } := by
    rw [State.setArity, BitVec.ofNat_toNat, BitVec.setWidth_eq]
  rw [exec_eq_finish, commandBody, bodySetArity, finish_done, State.complete_ok, hstored]

/-- R190: BUILD checks its phase first. -/
theorem exec_build_of_not_idle {s : State} (hphase : s.phase ≠ .idle) : exec .build s = .next (s.complete 0x11 1) := by
  simp [exec_eq_finish, commandBody, bodyBuild, hphase, CmdError.code, CmdError.sub]

/-- Settles O25: BUILD's checks in order, then the commit. -/
theorem buildFollowsItsRule : Obligations.BuildFollowsItsRule := by
  unfold Obligations.BuildFollowsItsRule
  intro s
  refine ⟨exec_build_of_not_idle, fun hphase hn => ?_, fun hphase hn hmax => ?_, fun hphase hn hmax hk => ?_,
    fun hphase hn hmax hk => ?_⟩
  · simp [exec_eq_finish, commandBody, bodyBuild, hphase, hn, CmdError.code, CmdError.sub]
  · simp [exec_eq_finish, commandBody, bodyBuild, hphase, Nat.not_lt.mpr hn, hmax, CmdError.code, CmdError.sub]
  · simp [exec_eq_finish, commandBody, bodyBuild, hphase, Nat.not_lt.mpr hn, Nat.not_lt.mpr hmax, hk, CmdError.code,
      CmdError.sub]
  · rw [exec_build_of_checks hphase hn hmax hk, State.complete_ok]
    rfl

section
variable {s : State} {node : Nat} (use : Node → Body)

/-- R200, R201: the tree queries need a tree. -/
theorem withNode_not_built (hphase : s.phase ≠ .built) : withNode s node use = .raise s .sequenceNeedsBuilt := by
  simp [withNode, hphase]

/-- R200, R201: the tree queries need a node of the tree. -/
theorem withNode_beyond (hphase : s.phase = .built) (hnode : s.nodeCount.toNat ≤ node) :
    withNode s node use = .raise s .nodeIndex := by
  simp [withNode, hphase, hnode]

end

/-- R200: SYM in the low 16 bits, KIND 1 in the upper two. -/
theorem nodeWord_leaf (sym f : Nat) :
    nodeWord (.leaf sym f) = (1#2 ++ 0#14 ++ BitVec.ofNat 16 sym : BitVec (2 + 14 + 16)) := by
  have hword : nodeWord (.leaf sym f) = (1#2).setWidth 32 <<< 30 ||| (BitVec.ofNat 16 sym).setWidth 32 := rfl
  rw [hword]
  generalize BitVec.ofNat 16 sym = field
  have hfield := field.isLt
  apply BitVec.eq_of_toNat_eq
  rw [toNat_append_eq_add, toNat_append_eq_add, ← BitVec.ofNat_toNat 32 field, setWidth_shiftLeft_or_ofNat _ (by omega)]
  simp only [BitVec.toNat_ofNat]
  omega

/-- R200: KIND 3 in the upper two bits of an internal node's word, and nothing else. -/
theorem nodeWord_internal (f : Nat) (children : List NodeIdx) : nodeWord (.internal f children) = 0xC0000000 := by
  have hword : nodeWord (.internal f children) = (3#2).setWidth 32 <<< 30 ||| 0 := rfl
  rw [hword]
  decide

/-- Settles O26: the node lookup's checks, then the two results. -/
theorem qNodeFollowsItsRule : Obligations.QNodeFollowsItsRule := by
  unfold Obligations.QNodeFollowsItsRule
  intro s x
  refine ⟨fun hphase => ?_, fun hphase hx => ?_, fun e hphase hx he => ⟨nodeWord e, ?_, ?_, ?_, ?_⟩⟩
  · rw [exec_eq_finish, commandBody, bodyQNode, withNode_not_built _ hphase, finish_raise]
    rfl
  · rw [exec_eq_finish, commandBody, bodyQNode, withNode_beyond _ hphase hx, finish_raise]
    rfl
  · rw [exec_eq_finish, commandBody, bodyQNode, withNode_some _ hphase hx he, finish_done, State.complete_ok]
    rfl
  · rintro sym f rfl
    exact nodeWord_leaf sym f
  · rintro rfl
    rfl
  · rintro f cs rfl
    exact nodeWord_internal f cs

/-- Settles O27: the node lookup's checks, then those of the kind and of the child index. -/
theorem qChildFollowsItsRule : Obligations.QChildFollowsItsRule := by
  unfold Obligations.QChildFollowsItsRule
  intro s x ci
  refine ⟨fun hphase => ?_, fun hphase hx => ?_, fun e hphase hx he => ?_⟩
  · rw [exec_eq_finish, commandBody, bodyQChild, withNode_not_built _ hphase, finish_raise]
    rfl
  · rw [exec_eq_finish, commandBody, bodyQChild, withNode_beyond _ hphase hx, finish_raise]
    rfl
  · rw [exec_eq_finish, commandBody, bodyQChild, withNode_some _ hphase hx he]
    refine ⟨fun hkind => ?_, fun hkind hci => ?_, fun c hkind hci hc => ?_⟩
    · cases e with
      | leaf sym f => rfl
      | dummy => rfl
      | internal f children => exact absurd rfl hkind
    · obtain ⟨f, children, rfl⟩ := Node.eq_internal_of_kindCode hkind
      dsimp only
      rw [if_pos hci, finish_raise]
      rfl
    · obtain ⟨f, children, rfl⟩ := Node.eq_internal_of_kindCode hkind
      dsimp only
      rw [if_neg (Nat.not_le.mpr hci), show children[ci]? = some c from hc]
      dsimp only
      rw [finish_done, State.complete_ok, ← BitVec.ofNat_toNat]
      rfl

/-! ### The built tree stays (R35, R191) -/

/-- The tree, the code table and the counts of one state are those of another. -/
structure SameTree (s t : State) : Prop where
  phase : t.phase = s.phase
  nodes : t.nodes = s.nodes
  nodeCount : t.nodeCount = s.nodeCount
  leafCount : t.leafCount = s.leafCount
  pad : t.pad = s.pad
  root : t.root = s.root
  treeArity : t.treeArity = s.treeArity
  codes : t.codes = s.codes
  freq : t.freq = s.freq
  kcount : t.kcount = s.kcount
  total : t.total = s.total

theorem SameTree.complete (s : State) (code : BitVec 8) (sub : BitVec 4) : SameTree s (s.complete code sub) :=
  ⟨rfl, rfl, rfl, rfl, rfl, rfl, rfl, rfl, rfl, rfl, rfl⟩

theorem SameTree.trans {s t u : State} (h : SameTree s t) (g : SameTree t u) : SameTree s u where
  phase := g.phase.trans h.phase
  nodes := g.nodes.trans h.nodes
  nodeCount := g.nodeCount.trans h.nodeCount
  leafCount := g.leafCount.trans h.leafCount
  pad := g.pad.trans h.pad
  root := g.root.trans h.root
  treeArity := g.treeArity.trans h.treeArity
  codes := g.codes.trans h.codes
  freq := g.freq.trans h.freq
  kcount := g.kcount.trans h.kcount
  total := g.total.trans h.total

/-- Only COUNT, BUILD and CLEAR write the tree, the codes or the counts. -/
theorem SuccessWrites.sameTree {s u : State} {i : Instr} (h : SuccessWrites s i u) (hcount : ∀ x, i ≠ .count x)
    (hbuild : i ≠ .build) (hclear : i ≠ .clear) : SameTree s u := by
  cases h with
  | clear => exact absurd rfl hclear
  | count x => exact absurd rfl (hcount x)
  | build => exact absurd rfl hbuild
  | _ => exact ⟨rfl, rfl, rfl, rfl, rfl, rfl, rfl, rfl, rfl, rfl, rfl⟩

theorem RaiseWrites.sameTree {s u : State} {i : Instr} (h : RaiseWrites s i u) : SameTree s u := by
  cases h <;> exact ⟨rfl, rfl, rfl, rfl, rfl, rfl, rfl, rfl, rfl, rfl, rfl⟩

/-- R35, R191: in phase BUILT every command but CLEAR leaves the tree: COUNT and BUILD fail there. -/
theorem exec_sameTree {i : Instr} {s t : State} (h : exec i s = .next t) (hphase : s.phase = .built)
    (hclear : i ≠ .clear) : SameTree s t := by
  have hidle : s.phase ≠ .idle := by simp [hphase]
  by_cases hbuild : i = .build
  · subst hbuild
    cases h.symm.trans (exec_build_of_not_idle hidle)
    exact .complete ..
  · by_cases hcount : ∃ x, i = .count x
    · obtain ⟨x, rfl⟩ := hcount
      obtain ⟨hfails, -⟩ := countFollowsItsRule s x
      cases h.symm.trans (hfails hidle)
      exact .complete ..
    · obtain ⟨u, hdone, rfl⟩ | ⟨u, e, hraise, rfl⟩ | rfl := exec_next_writes h
      · exact (hdone.sameTree (fun x hx => hcount ⟨x, hx⟩) hbuild hclear).trans (.complete ..)
      · exact hraise.sameTree.trans (.complete ..)
      · exact ⟨rfl, rfl, rfl, rfl, rfl, rfl, rfl, rfl, rfl, rfl, rfl⟩

/-- Settles O40: field by field of the same tree. -/
theorem builtTreeIsImmutable : Obligations.BuiltTreeIsImmutable := by
  unfold Obligations.BuiltTreeIsImmutable
  intro i s t h hphase hclear
  obtain ⟨hp, hnodes, hnodeCount, hleafCount, hpad, hroot, harity, hcodes, hfreq, hkcount, htotal⟩ :=
    exec_sameTree h hphase hclear
  exact ⟨hp.trans hphase, hnodes, hnodeCount, hleafCount, hpad, hroot, harity, hcodes, hfreq, hkcount, htotal⟩

end Sys2Proof.Machine
end

section
/-! PROOFS of the family 42_tree_builder.md, second part: the code table (R193 to R196) and the single-symbol tree (R189). A code is
read from the root down where R193 makes it from the leaf up: to walk a code is to be at its node, by induction along the path,
so every code leads to its own leaf; and as a walk ends at a leaf, no code goes on behind another. -/

namespace Sys2Proof.Machine

/-! ### Paths (R193) -/

theorem walk_cons {nodes : List Node} {i : Nat} {e : Node} {d : Digit} {c : NodeIdx} (ds : List Digit)
    (he : nodes[i]? = some e) (hc : e.children[d.toNat]? = some c) : walk nodes i (d :: ds) = walk nodes c.toNat ds := by
  simp [walk, he, hc]

/-- A walk that has ended at a node without children does not go on. -/
theorem walk_append_of_no_children {nodes : List Node} {e : Node} (hleaf : e.children = []) (d : Digit)
    (ds path : List Digit) (i : Nat) (h : walk nodes i path = some e) : walk nodes i (path ++ d :: ds) = none := by
  induction path generalizing i with
  | nil =>
    have hi : nodes[i]? = some e := h
    simp [walk, hi, hleaf]
  | cons x rest ih =>
    rw [walk] at h
    rw [List.cons_append, walk]
    cases hc : nodes[i]?.bind fun e => e.children[x.toNat]? with
    | none => rfl
    | some c =>
      rw [hc] at h
      exact ih _ h

/-- R193: the parent found has the node at the position found. -/
theorem parentOf_child {nodes : List Node} {e q i : Nat} (h : parentOf nodes e = some (q, i)) :
    ∃ x, nodes[q]? = some x ∧ x.children[i]? = some (BitVec.ofNat 18 e) := by
  obtain ⟨⟨x, j⟩, hx, hfound⟩ := List.exists_of_findSome?_eq_some h
  obtain ⟨i', hi', hpair⟩ := Option.map_eq_some_iff.mp hfound
  cases hpair
  obtain ⟨hlt, hchild, -⟩ := List.idxOf?_eq_some_iff.mp hi'
  exact ⟨x, List.mem_zipIdx_iff_getElem?.mp hx, List.getElem?_eq_some_iff.mpr ⟨hlt, hchild⟩⟩

/-- R193: a child of some node has a parent that the search finds. -/
theorem exists_parentOf {nodes : List Node} {e q : Nat} {x : Node} (hx : nodes[q]? = some x)
    (hchild : BitVec.ofNat 18 e ∈ x.children) : ∃ q' i, parentOf nodes e = some (q', i) := by
  have hfound : (parentOf nodes e).isSome = true := by
    refine List.findSome?_isSome_iff.mpr ⟨(x, q), List.mem_zipIdx_iff_getElem?.mpr hx, ?_⟩
    rw [Option.isSome_map]
    exact List.isSome_idxOf?.mpr hchild
  obtain ⟨⟨q', i⟩, hq⟩ := Option.isSome_iff_exists.mp hfound
  exact ⟨q', i, hq⟩

/-! ### Codes in a tree (R41, R193 to R195) -/

section
variable {s : State} (h : s.TreeOk)
include h

/-- R38, R39: the children of a node are no more than TREE_ARITY. -/
theorem State.TreeOk.children_length_le {q : Nat} {x : Node} (hx : s.nodes[q]? = some x) :
    x.children.length ≤ s.treeArity.toNat := by
  cases x with
  | leaf sym f => exact Nat.zero_le _
  | dummy => exact Nat.zero_le _
  | internal f cs => exact (h.children_length hx).le

/-- R193: a node other than the root has a parent, nearer to the root, at a position that is a digit. -/
theorem State.TreeOk.parentOf_of_lt_root (hlegal : s.params.Legal) {e : Nat} (he : e < s.root.toNat) :
    ∃ q i x, parentOf s.nodes e = some (q, i) ∧ s.nodes[q]? = some x ∧ x.children[i]? = some (BitVec.ofNat 18 e) ∧
      e < q ∧ q ≤ s.root.toNat ∧ i < s.treeArity.toNat ∧ i < 2 ^ 4 := by
  have hidx : (BitVec.ofNat 18 e).toNat = e := toNat_ofNat_of_lt (he.trans s.root.isLt)
  obtain ⟨_, _, hp, hpchild, -⟩ := h.exists_parent (c := BitVec.ofNat 18 e) (by rwa [hidx])
  obtain ⟨q, i, hparent⟩ := exists_parentOf hp hpchild
  obtain ⟨x, hx, hchild⟩ := parentOf_child hparent
  obtain ⟨-, hbelow⟩ := h.parent_index hx (List.mem_of_getElem? hchild)
  obtain ⟨hq, -⟩ := List.getElem?_eq_some_iff.mp hx
  obtain ⟨hi, -⟩ := List.getElem?_eq_some_iff.mp hchild
  have harity := h.children_length_le hx
  have hlen := h.length_nodes
  obtain ⟨⟨-, hmax⟩, -⟩ := h
  obtain ⟨-, ⟨-, hnMax⟩, -⟩ := hlegal
  exact ⟨q, i, x, hparent, hx, hchild, by omega, by omega, by omega, by omega⟩

/-- R193, R196(c), (d): the code of a node leads from the root to it, by digits below TREE_ARITY. -/
theorem State.TreeOk.walk_codeOf (hlegal : s.params.Legal) (fuel e : Nat) (he : e ≤ s.root.toNat)
    (hfuel : s.root.toNat - e < fuel) :
    (∀ d ∈ codeOf s.nodes s.root.toNat fuel e, d.toNat < s.treeArity.toNat) ∧
      ∀ ds, walk s.nodes s.root.toNat (codeOf s.nodes s.root.toNat fuel e ++ ds) = walk s.nodes e ds := by
  induction fuel generalizing e with
  | zero => omega
  | succ fuel ih =>
    rw [codeOf]
    split
    · subst_vars
      exact ⟨fun d hd => (nomatch hd), fun ds => rfl⟩
    · have hlt : e < s.root.toNat := by omega
      obtain ⟨q, i, x, hparent, hx, hchild, hbelow, hq, hi, hfit⟩ := h.parentOf_of_lt_root hlegal hlt
      obtain ⟨hdigits, hwalk⟩ := ih q hq (by omega)
      have hdigit : (BitVec.ofNat 4 i).toNat = i := toNat_ofNat_of_lt hfit
      have hidx : (BitVec.ofNat 18 e).toNat = e := toNat_ofNat_of_lt (hlt.trans s.root.isLt)
      rw [hparent]
      refine ⟨fun d hd => ?_, fun ds => ?_⟩
      · obtain hd | hd := List.mem_append.mp hd
        · exact hdigits d hd
        · rw [List.mem_singleton.mp hd, hdigit]
          exact hi
      · calc walk s.nodes s.root.toNat (codeOf s.nodes s.root.toNat fuel q ++ [BitVec.ofNat 4 i] ++ ds)
          _ = walk s.nodes q (BitVec.ofNat 4 i :: ds) := by rw [List.append_assoc, hwalk]; rfl
          _ = walk s.nodes (BitVec.ofNat 18 e).toNat ds := walk_cons ds hx (by rw [hdigit, hchild])
          _ = walk s.nodes e ds := by rw [hidx]

/-- R41, R188: a root that is no leaf stands above the leaves and dummies. -/
theorem State.TreeOk.leafCount_le_root (hk : s.kcount.toNat ≠ 1) : s.leafCount.toNat ≤ s.root.toNat := by
  obtain ⟨⟨hn, -⟩, hone, -, hlast, -, hleaf, hmod, hcount, -⟩ := h
  have hrounds : 0 < (s.leafCount.toNat - 1) / (s.treeArity.toNat - 1) :=
    Nat.div_pos (Nat.le_of_dvd (by omega) (Nat.dvd_of_mod_eq_zero hmod)) (by omega)
  omega

/-- R189: in a single-symbol tree the root is node 0. -/
theorem State.TreeOk.root_eq_zero (hk : s.kcount.toNat = 1) : s.root.toNat = 0 := by
  obtain ⟨-, -, -, hlast, hpad, hleaf, -, hcount, -⟩ := h
  rw [if_pos hk] at hpad
  rw [show s.leafCount.toNat = 1 by omega, Nat.sub_self, Nat.zero_div] at hcount
  omega

/-- R41, R184: a LEAF is one of the present symbols', with that symbol's count. -/
theorem State.TreeOk.leaf_mem {e x f : Nat} (he : s.nodes[e]? = some (.leaf x f)) :
    e < s.kcount.toNat ∧ Node.leaf x f ∈ enumerateLeaves s := by
  obtain hleaf | ⟨-, -, hdummy⟩ | ⟨-, hkind, -⟩ := h.node_cases he
  · exact hleaf
  · cases hdummy
  · cases hkind

theorem State.TreeOk.leaf_count {e x f : Nat} (he : s.nodes[e]? = some (.leaf x f)) : s.freqAt x ≠ 0 ∧ f = s.freqAt x := by
  obtain ⟨-, hmem⟩ := h.leaf_mem he
  obtain ⟨y, -, hne, hleaf⟩ := mem_enumerateLeaves.mp hmem
  cases hleaf
  exact ⟨hne, rfl⟩

end

/-- R194: the recorded code is the path, or [0] where the path is empty. -/
theorem leafCode_of_ne_nil {nodes : List Node} {root e : Nat} (h : codeOf nodes root nodes.length e ≠ []) :
    leafCode nodes root e = codeOf nodes root nodes.length e := by
  unfold leafCode
  split
  · exact absurd ‹_› h
  · exact Eq.symm ‹_›

/-- R194: the code recorded at the root. -/
theorem leafCode_root (nodes : List Node) (root : Nat) : leafCode nodes root root = [0] := by
  have hpath : codeOf nodes root nodes.length root = [] := by
    cases nodes.length with
    | zero => rfl
    | succ fuel => rw [codeOf, if_pos rfl]
  rw [leafCode, hpath]

section
variable {s : State} (htree : s.TreeOk)
include htree

/-- R194: at the root of a single-symbol tree stands its leaf, with the code [0]. -/
theorem State.TreeOk.leafCode_single (hk : s.kcount.toNat = 1) {e x f : Nat} (he : s.nodes[e]? = some (.leaf x f)) :
    e = s.root.toNat ∧ leafCode s.nodes s.root.toNat e = [0] := by
  have hroot := htree.root_eq_zero hk
  obtain ⟨hlt, -⟩ := htree.leaf_mem he
  obtain rfl : e = s.root.toNat := by omega
  exact ⟨rfl, leafCode_root ..⟩

/-- R196(c), (d): with more than one symbol, the code of a leaf leads from the root to it. -/
theorem State.TreeOk.walk_leafCode (hlegal : s.params.Legal) (hk : s.kcount.toNat ≠ 1) {e x f : Nat}
    (he : s.nodes[e]? = some (.leaf x f)) :
    (∀ d ∈ leafCode s.nodes s.root.toNat e, d.toNat < s.treeArity.toNat) ∧
      walk s.nodes s.root.toNat (leafCode s.nodes s.root.toNat e) = some (.leaf x f) := by
  obtain ⟨hlt, -⟩ := htree.leaf_mem he
  have hroot := htree.leafCount_le_root hk
  have hlen := htree.length_nodes
  have hbelow : e < s.root.toNat := by
    obtain ⟨-, -, -, -, -, hleaf, -⟩ := htree
    omega
  have hpath : codeOf s.nodes s.root.toNat s.nodes.length e ≠ [] := by
    obtain ⟨q, i, x, hparent, -⟩ := htree.parentOf_of_lt_root hlegal hbelow
    rw [hlen, codeOf, if_neg hbelow.ne, hparent]
    simp
  obtain ⟨hdigits, hwalk⟩ := htree.walk_codeOf hlegal s.nodes.length e hbelow.le (by omega)
  rw [leafCode_of_ne_nil hpath]
  refine ⟨hdigits, ?_⟩
  have hend := hwalk []
  rw [List.append_nil] at hend
  exact hend.trans he

/-- R42, R195: an entry of the code table is the code of a leaf of its symbol. -/
theorem State.CodesOk.exists_leaf {x : Nat} {c : List Digit} (hcodes : s.CodesOk) (hc : s.codeAt x = some c) :
    ∃ e, s.nodes[e]? = some (.leaf x (s.freqAt x)) ∧ s.freqAt x ≠ 0 ∧ c = leafCode s.nodes s.root.toNat e := by
  rw [State.codeAt, hcodes] at hc
  obtain hnone | ⟨e, f, he, rfl⟩ := read_generateCodes hc
  · cases hnone
  · obtain ⟨hne, rfl⟩ := htree.leaf_count he
    exact ⟨e, he, hne, rfl⟩

end

/-- Settles O54: the walk along a leaf's code, or R194's code at a root that is a leaf. -/
theorem codesLeadToTheirLeaf : Obligations.CodesLeadToTheirLeaf := by
  unfold Obligations.CodesLeadToTheirLeaf
  rintro s x c ⟨hlegal, -, -, -, -, hbuilt⟩ hphase hc
  obtain ⟨htree, hcodes, -⟩ := hbuilt hphase
  obtain ⟨e, he, -, rfl⟩ := hcodes.exists_leaf htree hc
  by_cases hk : s.kcount.toNat = 1
  · have hone : s.kcount = 1 := BitVec.eq_of_toNat_eq hk
    obtain ⟨rfl, hcode⟩ := htree.leafCode_single hk he
    rw [hcode]
    refine ⟨fun d hd => ?_, fun hne => absurd hone hne, fun _ => ⟨rfl, he⟩⟩
    obtain ⟨⟨hn, -⟩, -⟩ := htree
    rw [List.mem_singleton.mp hd]
    exact Nat.lt_of_lt_of_le (by decide) hn
  · obtain ⟨hdigits, hwalk⟩ := htree.walk_leafCode hlegal hk he
    exact ⟨hdigits, fun _ => hwalk, fun hone => absurd (congrArg BitVec.toNat hone) hk⟩

/-- Settles O53: a code that went on behind another would walk on from that one's leaf; the same code leads to one leaf. -/
theorem codesArePrefixFree : Obligations.CodesArePrefixFree := by
  unfold Obligations.CodesArePrefixFree
  rintro s x y c d hinv hphase hc hd hxy ⟨more, rfl⟩
  obtain ⟨-, hwalkX, hsingleX⟩ := codesLeadToTheirLeaf s x c hinv hphase hc
  obtain ⟨-, hwalkY, hsingleY⟩ := codesLeadToTheirLeaf s y _ hinv hphase hd
  by_cases hk : s.kcount = 1
  · obtain ⟨-, hx⟩ := hsingleX hk
    obtain ⟨-, hy⟩ := hsingleY hk
    cases hx.symm.trans hy
    exact hxy rfl
  · have hx := hwalkX hk
    have hy := hwalkY hk
    cases more with
    | nil =>
      rw [List.append_nil] at hy
      cases hx.symm.trans hy
      exact hxy rfl
    | cons digit rest => cases (walk_append_of_no_children rfl digit rest c _ hx).symm.trans hy

/-! ### The coded symbols (R196(a)) -/

/-- R195: every leaf's symbol gets a code, which no later leaf removes. -/
theorem isSome_read_generateCodes {nodes : List Node} {root e x f : Nat} (table : Memory (List Digit))
    (he : nodes[e]? = some (.leaf x f)) : ((generateCodes nodes root table).read x).isSome = true := by
  have hmem : (Node.leaf x f, e) ∈ nodes.zipIdx := List.mem_zipIdx_iff_getElem?.mpr he
  obtain ⟨before, later, hsplit⟩ := List.append_of_mem hmem
  rw [generateCodes, hsplit, List.foldl_append, List.foldl_cons]
  refine List.foldlRecOn (motive := fun t : Memory (List Digit) => (t.read x).isSome = true) _ _ (by simp) ?_
  rintro t ht ⟨node, i⟩ -
  cases node with
  | leaf sym g =>
    rw [Memory.read_write]
    split
    · rfl
    · exact ht
  | dummy => exact ht
  | internal g children => exact ht

/-- R35, R184: every present symbol is in range and has its leaf. -/
theorem State.FreqOk.leaf_mem_enumerateLeaves {s : State} (h : s.FreqOk) {x : Nat} (hx : s.freqAt x ≠ 0) :
    Node.leaf x (s.freqAt x) ∈ enumerateLeaves s := by
  refine mem_enumerateLeaves.mpr ⟨x, ?_, hx, rfl⟩
  by_contra hout
  exact hx (h.freqAt_eq_zero (Nat.not_lt.mp hout))

/-- Settles O52: the coded symbols are those of the leaves, and these are the present ones. -/
theorem codedSymbolsAreTheCountedOnes : Obligations.CodedSymbolsAreTheCountedOnes := by
  unfold Obligations.CodedSymbolsAreTheCountedOnes
  rintro s x ⟨-, hfreq, -, -, hidle, hbuilt⟩
  refine ⟨fun hphase => ?_, fun hphase => ?_⟩
  · obtain ⟨htree, hcodes, -⟩ := hbuilt hphase
    constructor
    · intro hsome
      obtain ⟨c, hc⟩ := Option.isSome_iff_exists.mp hsome
      obtain ⟨-, -, hne, -⟩ := hcodes.exists_leaf htree hc
      exact hne
    · intro hne
      have hleaf : Node.leaf x (s.freqAt x) ∈ s.nodes := by
        rw [htree.nodes_eq]
        exact List.mem_append_left _ (hfreq.leaf_mem_enumerateLeaves hne)
      obtain ⟨e, he⟩ := List.mem_iff_getElem?.mp hleaf
      rw [State.codeAt, hcodes]
      exact isSome_read_generateCodes [] he
  · obtain ⟨-, -, -, -, -, -, hcodes, -⟩ := hidle hphase
    rw [State.codeAt, hcodes]
    rfl

/-! ### The single-symbol tree (R189) -/

/-- R36, R184: with one symbol present, its leaf is the only one. -/
theorem State.FreqOk.enumerateLeaves_single {s : State} (h : s.FreqOk) {x : Nat} (hk : s.kcount.toNat = 1)
    (hx : s.freqAt x ≠ 0) : enumerateLeaves s = [.leaf x (s.freqAt x)] := by
  obtain ⟨e, he⟩ := List.length_eq_one_iff.mp (h.length_enumerateLeaves.trans hk)
  have hmem := h.leaf_mem_enumerateLeaves hx
  rw [he, List.mem_singleton] at hmem
  rw [he, hmem]

/-- Settles O50: the one leaf is R189's tree, and its commit writes the registers and the code [0]. -/
theorem singleSymbolTreeIsOneLeaf : Obligations.SingleSymbolTreeIsOneLeaf := by
  unfold Obligations.SingleSymbolTreeIsOneLeaf
  rintro s x f ⟨-, hfreq, -, -, hidle, -⟩ hphase hn hmax hk hf rfl
  obtain ⟨-, -, -, -, -, -, hcodes, -⟩ := hidle hphase
  have hresult : s.buildResult = { nodes := [.leaf x (s.freqAt x)], pq := s.pq, leafCount := 1, pad := 0 } := by
    rw [State.buildResult, hfreq.enumerateLeaves_single (by rw [hk]; rfl) hf, buildTree_one _ rfl]
  refine ⟨_, exec_build_of_checks hphase hn hmax (by rw [hk]; decide), rfl, rfl, ?_⟩
  rw [hresult]
  refine ⟨rfl, rfl, rfl, rfl, rfl, ?_⟩
  rw [State.complete_codes, State.commit_codes, hcodes]
  rfl

end Sys2Proof.Machine
end

section
/-! PROOFS of the family 43_code_lookup.md: ENC_SYM and Q_CODE (R230, R231), the encoding of a text (R232), and the end of every
hold once OUT is drained (R322), which the bound on the code lengths (R11) gives. -/

namespace Sys2Proof.Machine

/-! ### A drained OUT (R230, R322) -/

/-- Settles O36: a held command lacks space in OUT, but an empty OUT has OUT_DEPTH ≥ CODE_MAX ≥ 1 free entries. -/
theorem drainedOutputEndsEveryHold : Obligations.DrainedOutputEndsEveryHold := by
  unfold Obligations.DrainedOutputEndsEveryHold
  intro s hinv hout
  obtain ⟨-, -, -, ⟨hdepth, -⟩, -⟩ := hinv.runInv.legal
  have hone : 1 ≤ s.params.codeMax := Nat.le_max_left ..
  have hempty : s.out.length = 0 := by rw [hout, List.length_nil]
  refine Bool.eq_false_iff.mpr fun hhold => ?_
  obtain ⟨-, w, i, -, -, hphase, ⟨sym, code, -, -, hcode, hlack⟩ | ⟨dig, -, -, -, hfull, -⟩⟩ :=
    (holdIsALackOfOutputSpace s).mp hhold
  · obtain ⟨hbound, -⟩ := codeLengthIsBounded s hinv hphase
    obtain ⟨-, hlength⟩ := hbound sym code hcode
    omega
  · omega

/-! ### The code lookup (R230, R231) -/

section
variable {s : State} {sym : Nat} {use : List Digit → Body}

/-- R230, R231: with its checks passed, the lookup hands on the symbol's code. -/
theorem withCode_some {code : List Digit} (hphase : s.phase = .built) (hsym : sym < s.params.symCount)
    (hcode : s.codeAt sym = some code) : withCode s sym use = use code := by
  simp [withCode, hphase, State.symInRange_of_lt hsym, hcode]

/-- R230, R231: a command that starts with the lookup fails at the first check that does not pass. -/
theorem exec_withCode_fails {i : Instr} (hbody : commandBody i s = withCode s sym use) :
    (s.phase ≠ .built → exec i s = .next (s.complete 0x11 2)) ∧
    (s.phase = .built → s.params.symCount ≤ sym → exec i s = .next (s.complete 0x02 1)) ∧
    (s.phase = .built → sym < s.params.symCount → s.codeAt sym = none → exec i s = .next (s.complete 0x02 2)) := by
  rw [exec_eq_finish, hbody, withCode]
  refine ⟨fun hphase => ?_, fun hphase hsym => ?_, fun hphase hsym hcode => ?_⟩
  · simp [hphase, CmdError.code, CmdError.sub]
  · simp [hphase, State.symInRange_of_le hsym, CmdError.code, CmdError.sub]
  · simp [hphase, State.symInRange_of_lt hsym, hcode, CmdError.code, CmdError.sub]

end

/-! ### ENC_SYM (R230) -/

/-- R230: a code that fits the free entries of OUT is pushed, first digit first. -/
theorem exec_encSym_of_fits {s : State} {sym : Nat} {code : List Digit} (hphase : s.phase = .built)
    (hsym : sym < s.params.symCount) (hcode : s.codeAt sym = some code)
    (hfits : code.length ≤ s.params.outDepth - s.out.length) :
    exec (.encSym sym) s = .next ((s.push (code.map OutEntry.ofDigit)).complete 0 0) := by
  rw [exec_eq_finish, commandBody, bodyEncSym, withCode_some hphase hsym hcode, State.outFree,
    if_neg (Nat.not_lt.mpr hfits), finish_done]

/-- R51: the entry of a digit, its value written out. -/
theorem OutEntry.ofDigit_eq : OutEntry.ofDigit = fun d => ⟨.digit, BitVec.ofNat 16 d.toNat⟩ := by
  funext d
  rw [OutEntry.ofDigit, BitVec.ofNat_toNat]

/-- Settles O28: the lookup's checks, then the wait or the push of the code. -/
theorem encSymFollowsItsRule : Obligations.EncSymFollowsItsRule := by
  unfold Obligations.EncSymFollowsItsRule
  intro s sym
  obtain ⟨hbuilt, hrange, hcounted⟩ := exec_withCode_fails (i := .encSym sym) (s := s) rfl
  refine ⟨hbuilt, hrange, hcounted, fun code hphase hsym hcode => ⟨fun hlack => ?_, fun hfits => ?_⟩⟩
  · exact exec_of_waits (bodyEncSym_isWait.mpr ⟨hphase, hsym, code, hcode, Nat.not_le.mp hlack⟩)
  · rw [exec_encSym_of_fits hphase hsym hcode hfits, State.complete_ok, OutEntry.ofDigit_eq]
    rfl

/-! ### Q_CODE (R231) -/

/-- The value of digits in base 16, digit 0 the lowest (R231). -/
def packedValue (ds : List Digit) : Nat := (ds.zipIdx.map fun e => e.1.toNat * 2 ^ (4 * e.2)).sum

/-- A further digit at the bottom moves the others up one place. -/
theorem packedValue_cons (d : Digit) (ds : List Digit) : packedValue (d :: ds) = d.toNat + 2 ^ 4 * packedValue ds := by
  have hshift : ∀ e : Digit × Nat, e.1.toNat * 2 ^ (4 * (e.2 + 1)) = 2 ^ 4 * (e.1.toNat * 2 ^ (4 * e.2)) := fun e => by ring
  rw [packedValue, packedValue, ← List.sum_map_mul_left, List.zipIdx_cons, List.zipIdx_succ]
  simp [Function.comp_def, hshift]

/-- R231: RES1 holds the value of the first eight digits. -/
theorem packDigits_eq (code : List Digit) : packDigits code = BitVec.ofNat 32 (packedValue (code.take 8)) := by
  rw [packDigits]
  induction code.take 8 with
  | nil => rfl
  | cons d ds ih =>
    rw [List.foldr_cons, ih, packedValue_cons]
    apply BitVec.eq_of_toNat_eq
    simp [Nat.shiftLeft_eq, Nat.mul_comm]

/-- Settles O29: the lookup's checks, then the two results; nothing in it waits. -/
theorem qCodeFollowsItsRule : Obligations.QCodeFollowsItsRule := by
  unfold Obligations.QCodeFollowsItsRule
  intro s sym
  obtain ⟨hbuilt, hrange, hcounted⟩ := exec_withCode_fails (i := .qCode sym) (s := s) rfl
  refine ⟨hbuilt, hrange, hcounted, fun code hphase hsym hcode => ?_⟩
  rw [exec_eq_finish, commandBody, bodyQCode, withCode_some hphase hsym hcode, finish_done, State.complete_ok,
    packDigits_eq]
  rfl

/-! ### Encoding a text (R232) -/

/-- R196(a): in phase BUILT a counted symbol is in range and has a code. -/
theorem State.Inv.code_of_counted {s : State} (h : s.Inv) (hphase : s.phase = .built) {x : Nat} (hx : s.freqAt x ≠ 0) :
    x < s.params.symCount ∧ ∃ code, s.codeAt x = some code := by
  obtain ⟨hcoded, -⟩ := codedSymbolsAreTheCountedOnes s x h
  exact ⟨Nat.not_le.mp fun hout => hx (h.runInv.freq.freqAt_eq_zero hout),
    Option.isSome_iff_exists.mp ((hcoded hphase).mpr hx)⟩

/-- R52, R141: a push after a completion with OK joins the push before it. -/
theorem State.push_complete_push (s : State) (es fs : List OutEntry) :
    (((s.push es).complete 0 0).push fs).complete 0 0 = (s.push (es ++ fs)).complete 0 0 := by
  rw [State.complete_ok, State.complete_ok, State.complete_ok, State.push, State.push, State.push, List.append_assoc]

/-- A run goes on from where its first command ends. -/
theorem execAll_cons {i : Instr} {s t : State} (h : exec i s = .next t) (rest : List Instr) :
    execAll (i :: rest) s = execAll rest t := by
  rw [execAll, h]

/-- R232: by induction on the text; every completed ENC_SYM leaves the invariant, the counts and the codes as they were. -/
theorem execAll_encSym {s : State} {text : List Nat} (hinv : s.Inv) (hphase : s.phase = .built) (hne : text ≠ [])
    (hcounted : ∀ x ∈ text, s.freqAt x ≠ 0)
    (hfits : s.out.length + (s.textDigits text).length ≤ s.params.outDepth) :
    execAll (text.map .encSym) s = .next ((s.push ((s.textDigits text).map OutEntry.ofDigit)).complete 0 0) := by
  induction text generalizing s with
  | nil => exact absurd rfl hne
  | cons x rest ih =>
    obtain ⟨hx, hrest⟩ := List.forall_mem_cons.mp hcounted
    obtain ⟨hsym, code, hcode⟩ := hinv.code_of_counted hphase hx
    have hdigits : s.textDigits (x :: rest) = code ++ s.textDigits rest := by
      rw [State.textDigits, List.flatMap_cons, hcode]
      rfl
    rw [hdigits, List.length_append] at hfits
    have hexec := exec_encSym_of_fits hphase hsym hcode (by omega)
    rw [List.map_cons, execAll_cons hexec, hdigits, List.map_append]
    cases rest with
    | nil => simp [execAll, State.textDigits]
    | cons y rest =>
      rw [← State.push_complete_push]
      refine ih (exec_keepsInv hinv hexec) hphase (List.cons_ne_nil _ _) hrest ?_
      show (s.out ++ code.map OutEntry.ofDigit).length + (s.textDigits (y :: rest)).length ≤ s.params.outDepth
      rw [List.length_append, List.length_map]
      omega

/-- Settles O56: the run of the ENC_SYM commands, its completion written out. -/
theorem encodingATextConcatenatesItsCodes : Obligations.EncodingATextConcatenatesItsCodes := by
  unfold Obligations.EncodingATextConcatenatesItsCodes
  intro s text hinv hphase hne hcounted hfits
  rw [execAll_encSym hinv hphase hne hcounted hfits, State.complete_ok]
  rfl

end Sys2Proof.Machine
end

section
/-! PROOFS of the family 44_traversal_decoder.md: DEC_START, DEC_DIGIT and DEC_END (R250 to R252), the round trip of a text (R255)
and the absence of faults (R253). Within a session that opened on a state, successful digits move only the cursor and OUT; so
decoding a code is the walk along it, by induction on the path, and a text is decoded code by code. -/

namespace Sys2Proof.Machine

/-! ### No step faults (R253, I10) -/

/-- R140: under the invariant the engine's turn always has a next state. -/
theorem engineStep_exists_next {s : State} (h : s.Inv) : ∃ t, engineStep s = .next t := by
  cases hbusy : s.busy with
  | false => exact ⟨_, engineStep_idle hbusy⟩
  | true =>
    cases hcmdl : s.cmdl with
    | init => exact ⟨_, engineStep_init hbusy hcmdl⟩
    | word w =>
      rw [engineStep_word hbusy hcmdl]
      cases hdecode : decode w with
      | illegal why => exact ⟨_, by rw [runWord, hdecode]⟩
      | command i => exact runWord_command hdecode ▸ exec_exists_next h i

/-- R81, R253: under the invariant a step has a next state, or the host's access is not admitted. -/
theorem step_next_or_not_admitted {s : State} (h : s.Inv) :
    (∃ t, step s = .next t) ∨ (step s = .refused .accessNotAdmitted ∧
      ((∃ off size, s.nextTurn = .read off size ∧ admitted off size = false) ∨
        ∃ off size v, s.nextTurn = .write off size v ∧ admitted off size = false)) := by
  rw [step]
  cases hturn : s.nextTurn with
  | engine => exact .inl (engineStep_exists_next (s := s.dropTurn) h)
  | reset => exact .inl ⟨_, rfl⟩
  | read off size =>
    rw [takeTurn, readTurn]
    cases hadmitted : admitted off size with
    | true => exact .inl ⟨_, rfl⟩
    | false => exact .inr ⟨rfl, .inl ⟨off, size, rfl, hadmitted⟩⟩
  | write off size v =>
    rw [takeTurn, writeTurn]
    cases hadmitted : admitted off size with
    | true => exact .inl ⟨_, rfl⟩
    | false => exact .inr ⟨rfl, .inr ⟨off, size, v, rfl, hadmitted⟩⟩

/-- Settles O60: a step that has a next state neither faults nor is refused, and the refusal is R81's. -/
theorem noStepFaultsUnderTheInvariant : Obligations.NoStepFaultsUnderTheInvariant := by
  unfold Obligations.NoStepFaultsUnderTheInvariant
  intro s h
  obtain ⟨t, hnext⟩ | ⟨hrefused, haccess⟩ := step_next_or_not_admitted h
  · rw [hnext]
    exact ⟨fun f hf => (nomatch hf), fun r hr => (nomatch hr)⟩
  · rw [hrefused]
    refine ⟨fun f hf => (nomatch hf), fun r hr => ?_⟩
    cases hr
    exact ⟨rfl, haccess⟩

/-! ### DEC_START (R250) and DEC_END (R252) -/

/-- Settles O30: the check of the phase, then the session at the root. -/
theorem decStartFollowsItsRule : Obligations.DecStartFollowsItsRule := by
  unfold Obligations.DecStartFollowsItsRule
  intro s
  rw [exec_eq_finish, commandBody, bodyDecStart]
  refine ⟨fun hphase => ?_, fun hphase => ?_⟩
  · rw [if_pos hphase, finish_raise]
    rfl
  · rw [if_neg (not_not.mpr hphase), finish_done, State.complete_ok]
    rfl

/-- Settles O32: the checks of the phase and the session, then the cursor's place. -/
theorem decEndFollowsItsRule : Obligations.DecEndFollowsItsRule := by
  unfold Obligations.DecEndFollowsItsRule
  intro s
  rw [exec_eq_finish, commandBody, bodyDecEnd]
  refine ⟨fun hphase => ?_, fun hphase hdec => ?_, fun hphase hdec => ?_, fun hphase hdec hcursor => ?_,
    fun hphase hdec hcursor => ?_⟩
  · rw [if_pos hphase, finish_raise]
    rfl
  · rw [if_neg (not_not.mpr hphase), hdec]
    rfl
  · rw [if_neg (not_not.mpr hphase), hdec]
    rfl
  · rw [if_neg (not_not.mpr hphase), hdec]
    dsimp only
    rw [if_pos hcursor]
    rfl
  · rw [if_neg (not_not.mpr hphase), hdec]
    dsimp only
    rw [if_neg (not_not.mpr hcursor), finish_done, State.complete_ok]
    rfl

/-! ### DEC_DIGIT (R251) -/

section
variable {s : State} {y f : Nat} {e : NodeIdx}

theorem digitToChild_internal {cs : List NodeIdx} (he : s.nodes[e.toNat]? = some (.internal f cs)) :
    digitToChild s e = .done (s.setDecoder s.decState e) := by
  rw [digitToChild, State.nodeAt, he]

theorem digitToChild_leaf (he : s.nodes[e.toNat]? = some (.leaf y f)) : digitToChild s e = emitSymbol s y := by
  rw [digitToChild, State.nodeAt, he]

theorem digitToChild_dummy (he : s.nodes[e.toNat]? = some .dummy) :
    digitToChild s e = abortSession s .encodingDummy := by
  rw [digitToChild, State.nodeAt, he]

/-- R251: with a free entry in OUT the symbol is pushed and the cursor returns to the root. -/
theorem emitSymbol_of_free (hfree : s.out.length < s.params.outDepth) :
    emitSymbol s y = .done ((s.push [OutEntry.ofSymbol y]).setDecoder s.decState s.root) := by
  rw [emitSymbol, if_neg ((outFree_lt_one s).not.mpr (Nat.not_le.mpr hfree))]

end

section
variable {s : State} {dig : Nat} (hphase : s.phase = .built) (hactive : s.decState = .active)
include hphase hactive

/-- R251: `abort(1)` comes before any read of the node memory. -/
theorem bodyDecDigit_beyond (hdig : s.treeArity.toNat ≤ dig) :
    bodyDecDigit dig s = abortSession s .encodingDigitRange := by
  simp [bodyDecDigit, hphase, hactive, hdig]

variable (hdig : dig < s.treeArity.toNat)
include hdig

/-- R251: with its checks passed, a digit at a LEAF under the cursor. -/
theorem bodyDecDigit_leaf {y f : Nat} (hnode : s.nodes[s.cursor.toNat]? = some (.leaf y f)) :
    bodyDecDigit dig s = digitAtLeaf s y dig := by
  simp [bodyDecDigit, State.nodeAt, hphase, hactive, Nat.not_le.mpr hdig, hnode]

/-- R251: with its checks passed, a digit that selects a child of the node under the cursor. -/
theorem bodyDecDigit_child {x : Node} {e : NodeIdx} (hnode : s.nodes[s.cursor.toNat]? = some x)
    (hchild : x.children[dig]? = some e) : bodyDecDigit dig s = digitToChild s e := by
  cases x with
  | leaf y f => cases hchild
  | dummy => cases hchild
  | internal f cs =>
    have hchild : cs[dig]? = some e := hchild
    simp [bodyDecDigit, State.nodeAt, hphase, hactive, Nat.not_le.mpr hdig, hnode, hchild]

/-- R251: a digit at a LEAF root pushes the leaf's symbol, and the cursor stays. -/
theorem exec_decDigit_leaf {y f : Nat} (hnode : s.nodes[s.cursor.toNat]? = some (.leaf y f)) (hzero : dig = 0)
    (hfree : s.out.length < s.params.outDepth) :
    exec (.decDigit dig) s = .next ((s.push [OutEntry.ofSymbol y]).complete 0 0) := by
  rw [exec_eq_finish, commandBody, bodyDecDigit_leaf hphase hactive hdig hnode, digitAtLeaf,
    if_neg (not_not.mpr hzero), if_neg ((outFree_lt_one s).not.mpr (Nat.not_le.mpr hfree)), finish_done]

variable {x : Node} {e : NodeIdx} (hnode : s.nodes[s.cursor.toNat]? = some x) (hchild : x.children[dig]? = some e)
include hnode hchild

/-- R251: a digit that selects an internal child moves the cursor there. -/
theorem exec_decDigit_descends {g : Nat} {cs : List NodeIdx} (he : s.nodes[e.toNat]? = some (.internal g cs)) :
    exec (.decDigit dig) s = .next ((s.setDecoder s.decState e).complete 0 0) := by
  rw [exec_eq_finish, commandBody, bodyDecDigit_child hphase hactive hdig hnode hchild, digitToChild_internal he,
    finish_done]

/-- R251: a digit that selects a LEAF pushes its symbol and returns the cursor to the root. -/
theorem exec_decDigit_emits {y g : Nat} (he : s.nodes[e.toNat]? = some (.leaf y g))
    (hfree : s.out.length < s.params.outDepth) :
    exec (.decDigit dig) s =
      .next (((s.push [OutEntry.ofSymbol y]).setDecoder s.decState s.root).complete 0 0) := by
  rw [exec_eq_finish, commandBody, bodyDecDigit_child hphase hactive hdig hnode hchild, digitToChild_leaf he,
    emitSymbol_of_free hfree, finish_done]

end

/-- Settles O31: the checks in order, the digit at a leaf root, and the digit's child by its kind. -/
theorem decDigitFollowsItsRule : Obligations.DecDigitFollowsItsRule := by
  unfold Obligations.DecDigitFollowsItsRule
  intro s dig
  refine ⟨fun hphase => ?_, fun hphase hdec => ?_, fun hphase hdec => ?_, fun hphase hdec hdig => ?_,
    fun y f hphase hdec hdig hnode => ⟨fun hne => ?_, fun hzero hfull => ?_, fun hzero hfree => ?_⟩,
    fun f cs e q hphase hdec hdig hnode hchild hq =>
      ⟨fun hkind => ?_, fun y g hleaf hfull => ?_, fun y g hleaf hfree => ?_, fun hdummy => ?_⟩⟩
  · rw [exec_eq_finish, commandBody, bodyDecDigit, if_pos hphase]
    rfl
  · rw [exec_eq_finish, commandBody, bodyDecDigit, if_neg (not_not.mpr hphase), hdec]
    rfl
  · rw [exec_eq_finish, commandBody, bodyDecDigit, if_neg (not_not.mpr hphase), hdec]
    rfl
  · rw [exec_eq_finish, commandBody, bodyDecDigit_beyond hphase hdec hdig]
    rfl
  · rw [exec_eq_finish, commandBody, bodyDecDigit_leaf hphase hdec hdig hnode, digitAtLeaf, if_pos hne]
    rfl
  · exact exec_of_waits (bodyDecDigit_isWait.mpr
      ⟨hphase, hdec, hdig, Nat.not_lt.mp hfull, .inl ⟨y, f, hnode, hzero⟩⟩)
  · rw [exec_decDigit_leaf hphase hdec hdig hnode hzero hfree, State.complete_ok]
    rfl
  · obtain ⟨g, ds, rfl⟩ := Node.eq_internal_of_kindCode hkind
    rw [exec_decDigit_descends hphase hdec hdig hnode hchild hq, State.complete_ok]
    rfl
  · exact exec_of_waits (bodyDecDigit_isWait.mpr
      ⟨hphase, hdec, hdig, Nat.not_lt.mp hfull, .inr ⟨f, cs, e, y, g, hnode, hchild, hleaf ▸ hq⟩⟩)
  · rw [exec_decDigit_emits hphase hdec hdig hnode hchild (hleaf ▸ hq) hfree, State.complete_ok]
    rfl
  · rw [exec_eq_finish, commandBody, bodyDecDigit_child hphase hdec hdig hnode hchild, digitToChild_dummy (hdummy ▸ hq)]
    rfl

/-! ### Within a session (R44, R254) -/

/-- The state in an active session that opened on `s`, after a command that succeeded: the cursor stands at `c` and `es` has
been pushed since. -/
def State.session (s : State) (c : NodeIdx) (es : List OutEntry) : State :=
  { s with out := s.out ++ es, decState := .active, cursor := c, lastCode := 0, lastSub := 0, busy := false }

/-- R251: a move of the cursor within a session. -/
theorem State.session_setDecoder (s : State) (c c' : NodeIdx) (es : List OutEntry) :
    ((s.session c es).setDecoder .active c').complete 0 0 = s.session c' es := by
  rw [State.complete_ok]
  rfl

/-- R251, R52: an emission within a session. -/
theorem State.session_push (s : State) (c c' : NodeIdx) (es fs : List OutEntry) :
    (((s.session c es).push fs).setDecoder .active c').complete 0 0 = s.session c' (es ++ fs) := by
  rw [State.complete_ok, State.session, State.session, State.push, List.append_assoc]
  rfl

section
variable {s : State} (hphase : s.phase = .built)
include hphase

/-- R250: DEC_START opens a session at the root, with nothing pushed. -/
theorem exec_decStart_session : exec .decStart s = .next (s.session s.root []) := by
  obtain ⟨-, hstart⟩ := decStartFollowsItsRule s
  rw [hstart hphase, State.session, List.append_nil]

/-- R252: a session whose cursor is back at the root closes with OK. -/
theorem exec_decEnd_session (es : List OutEntry) :
    exec .decEnd (s.session s.root es) = .next { s with
      out := s.out ++ es, decState := .idle, cursor := s.root, lastCode := 0, lastSub := 0, busy := false } := by
  obtain ⟨-, -, -, -, hend⟩ := decEndFollowsItsRule (s.session s.root es)
  exact hend hphase rfl rfl

variable {c : NodeIdx} {es : List OutEntry} {dig : Nat} (hdig : dig < s.treeArity.toNat)
include hdig

/-- R251: within a session, a digit that selects an internal child. -/
theorem exec_decDigit_session_descends {x q : Node} {e e' : NodeIdx} {i : Nat} (hx : s.nodes[c.toNat]? = some x)
    (hchild : x.children[dig]? = some e) (hq : s.nodes[e.toNat]? = some q) (hinner : q.children[i]? = some e') :
    exec (.decDigit dig) (s.session c es) = .next (s.session e es) := by
  cases q with
  | leaf y f => cases hinner
  | dummy => cases hinner
  | internal f cs =>
    rw [← s.session_setDecoder c e es]
    exact exec_decDigit_descends (s := s.session c es) hphase rfl hdig hx hchild hq

variable (hfree : s.out.length + es.length < s.params.outDepth)
include hfree

/-- R251: within a session, a digit that selects a LEAF. -/
theorem exec_decDigit_session_emits {x : Node} {e : NodeIdx} {y f : Nat} (hx : s.nodes[c.toNat]? = some x)
    (hchild : x.children[dig]? = some e) (he : s.nodes[e.toNat]? = some (.leaf y f)) :
    exec (.decDigit dig) (s.session c es) = .next (s.session s.root (es ++ [OutEntry.ofSymbol y])) := by
  rw [← s.session_push c]
  exact exec_decDigit_emits (s := s.session c es) hphase rfl hdig hx hchild he (List.length_append ▸ hfree)

/-- R251: within a session on a single-symbol tree, the digit 0. -/
theorem exec_decDigit_session_leaf {y f : Nat} (hroot : s.nodes[s.root.toNat]? = some (.leaf y f)) (hzero : dig = 0) :
    exec (.decDigit dig) (s.session s.root es) = .next (s.session s.root (es ++ [OutEntry.ofSymbol y])) := by
  rw [← s.session_push s.root]
  exact exec_decDigit_leaf (s := s.session s.root es) hphase rfl hdig hroot hzero (List.length_append ▸ hfree)

end

/-! ### Decoding a text (R254, R255) -/

/-- The DEC_DIGIT commands that decode the given digits. -/
def decDigits (ds : List Digit) : List Instr := ds.map fun d => .decDigit d.toNat

theorem decDigits_append (ds es : List Digit) : decDigits (ds ++ es) = decDigits ds ++ decDigits es := List.map_append

/-- R232: the digits of a text start with the code of its first symbol. -/
theorem State.textDigits_cons {s : State} {x : Nat} {code : List Digit} (hcode : s.codeAt x = some code)
    (text : List Nat) : s.textDigits (x :: text) = code ++ s.textDigits text := by
  rw [State.textDigits, List.flatMap_cons, hcode]
  rfl

/-- R193: a walk that goes on by a digit reads a node and its child at that position. -/
theorem exists_child_of_walk_cons {nodes : List Node} {i : Nat} {d : Digit} {ds : List Digit} {q : Node}
    (h : walk nodes i (d :: ds) = some q) :
    ∃ x c, nodes[i]? = some x ∧ x.children[d.toNat]? = some c ∧ walk nodes c.toNat ds = some q := by
  rw [walk] at h
  cases hc : nodes[i]?.bind fun e => e.children[d.toNat]? with
  | none => simp [hc] at h
  | some c =>
    rw [hc] at h
    obtain ⟨x, hx, hchild⟩ := Option.bind_eq_some_iff.mp hc
    exact ⟨x, c, hx, hchild, h⟩

/-- R254: the digits of a path from the cursor to a leaf push the leaf's symbol, by induction along the path. -/
theorem execAll_decDigits_path {s : State} (hphase : s.phase = .built) {es : List OutEntry}
    (hfree : s.out.length + es.length < s.params.outDepth) {y f : Nat} {d : Digit} {ds : List Digit} {c : NodeIdx}
    (hdigits : ∀ x ∈ d :: ds, x.toNat < s.treeArity.toNat) (hwalk : walk s.nodes c.toNat (d :: ds) = some (.leaf y f))
    (rest : List Instr) :
    execAll (decDigits (d :: ds) ++ rest) (s.session c es) =
      execAll rest (s.session s.root (es ++ [OutEntry.ofSymbol y])) := by
  induction ds generalizing d c with
  | nil =>
    obtain ⟨x, e, hx, hchild, he⟩ := exists_child_of_walk_cons hwalk
    exact execAll_cons (exec_decDigit_session_emits hphase (hdigits d List.mem_cons_self) hfree hx hchild he) rest
  | cons d' ds ih =>
    obtain ⟨hd, hds⟩ := List.forall_mem_cons.mp hdigits
    obtain ⟨x, e, hx, hchild, hmore⟩ := exists_child_of_walk_cons hwalk
    obtain ⟨q, e', hq, hinner, -⟩ := exists_child_of_walk_cons hmore
    have hexec := exec_decDigit_session_descends (es := es) hphase hd hx hchild hq hinner
    exact (execAll_cons hexec _).trans (ih hds hmore)

/-- R254: the digits of a symbol's code push the symbol, in a single-symbol tree too. -/
theorem execAll_decDigits_code {s : State} (hinv : s.Inv) (hphase : s.phase = .built) {es : List OutEntry}
    (hfree : s.out.length + es.length < s.params.outDepth) {y : Nat} {code : List Digit} (hcode : s.codeAt y = some code)
    (rest : List Instr) :
    execAll (decDigits code ++ rest) (s.session s.root es) =
      execAll rest (s.session s.root (es ++ [OutEntry.ofSymbol y])) := by
  obtain ⟨hdigits, hwalk, hsingle⟩ := codesLeadToTheirLeaf s y code hinv hphase hcode
  by_cases hk : s.kcount = 1
  · obtain ⟨rfl, hroot⟩ := hsingle hk
    have hzero := hdigits 0 List.mem_cons_self
    exact execAll_cons (exec_decDigit_session_leaf hphase hzero hfree hroot rfl) rest
  · obtain ⟨hlengths, -⟩ := codeLengthIsBounded s hinv hphase
    obtain ⟨hlength, -⟩ := hlengths y code hcode
    obtain ⟨d, ds, rfl⟩ := List.exists_cons_of_length_pos hlength
    exact execAll_decDigits_path hphase hfree hdigits (hwalk hk) rest

/-- R255: the digits of a text push its symbols, by induction on the text. -/
theorem execAll_decDigits_text {s : State} (hinv : s.Inv) (hphase : s.phase = .built) {text : List Nat}
    {es : List OutEntry} (hcounted : ∀ x ∈ text, s.freqAt x ≠ 0)
    (hfits : s.out.length + es.length + text.length ≤ s.params.outDepth) (rest : List Instr) :
    execAll (decDigits (s.textDigits text) ++ rest) (s.session s.root es) =
      execAll rest (s.session s.root (es ++ text.map OutEntry.ofSymbol)) := by
  induction text generalizing es with
  | nil =>
    rw [List.map_nil, List.append_nil]
    rfl
  | cons x text ih =>
    obtain ⟨hx, htext⟩ := List.forall_mem_cons.mp hcounted
    obtain ⟨-, code, hcode⟩ := hinv.code_of_counted hphase hx
    rw [List.length_cons] at hfits
    rw [State.textDigits_cons hcode, decDigits_append, List.append_assoc, execAll_decDigits_code hinv hphase (by omega) hcode,
      ih htext (by rw [List.length_append, List.length_singleton]; omega), List.map_cons, List.append_assoc,
      List.singleton_append]

/-- Settles O57: DEC_START, the digits of the text, and DEC_END at the root. -/
theorem decodingTheDigitsGivesTheTextBack : Obligations.DecodingTheDigitsGivesTheTextBack := by
  unfold Obligations.DecodingTheDigitsGivesTheTextBack
  intro s text hinv hphase hcounted hfits
  have hdigits := execAll_decDigits_text hinv hphase (es := []) hcounted hfits [.decEnd]
  rw [List.nil_append] at hdigits
  rw [List.cons_append, execAll_cons (exec_decStart_session hphase)]
  exact hdigits.trans (execAll_cons (exec_decEnd_session hphase _) [])

end Sys2Proof.Machine
end

section
/-! PROOFS of the family 60_exceptions.md: what a failing command leaves (R283) and the codes of a completion (R280). The first is
read off the writes a command can have made when it raises; for the second every `raise` of the pseudocodes is looked up in
R280's table. -/

namespace Sys2Proof.Machine

/-! ### A failing command (R141, R283) -/

section
variable {s u : State} {i : Instr} (h : RaiseWrites s i u)
include h

/-- R283: a raise writes at most the decoder's registers, and its completion the error registers and BUSY (R141). -/
theorem RaiseWrites.raise_eq (e : CmdError) :
    u.raise e = { s with lastCode := e.code, lastSub := e.sub, firstCode := (u.raise e).firstCode,
                         firstSub := (u.raise e).firstSub, sticky := (u.raise e).sticky, busy := false,
                         decState := u.decState, cursor := u.cursor } := by
  cases h <;> rfl

/-- R251, R252: only DEC_DIGIT and DEC_END write the decoder's registers before a raise. -/
theorem RaiseWrites.decoder (hdigit : ∀ d, i ≠ .decDigit d) (hend : i ≠ .decEnd) :
    u.decState = s.decState ∧ u.cursor = s.cursor := by
  cases h with
  | none => exact ⟨rfl, rfl⟩
  | decDigit d => exact absurd rfl (hdigit d)
  | decEnd => exact absurd rfl hend

end

/-- Settles O9: a command with a next state has succeeded, and then LAST_CODE is 0, or raised, or is held in the state it was
given. -/
theorem failingCommandChangesNothingElse : Obligations.FailingCommandChangesNothingElse := by
  unfold Obligations.FailingCommandChangesNothingElse
  intro i s t h hfailed
  obtain ⟨u, -, rfl⟩ | ⟨u, e, hraise, rfl⟩ | rfl := exec_next_writes h
  · exact absurd rfl hfailed
  · exact ⟨hraise.raise_eq e, hraise.decoder⟩
  · exact ⟨rfl, fun _ _ => ⟨rfl, rfl⟩⟩

/-! ### The codes of a completion (R280) -/

/-- The error that a pseudocode raises stands in the command's row of R280's table. -/
def Body.CodesOf (i : Instr) : Body → Prop
  | .done _ => True
  | .raise _ e => (e.code, e.sub) ∈ completionCodes i
  | .wait => True
  | .noValue _ => True

@[simp] theorem Body.codesOf_done (i : Instr) (u : State) : (Body.done u).CodesOf i := trivial

@[simp] theorem Body.codesOf_raise (i : Instr) (u : State) (e : CmdError) :
    (Body.raise u e).CodesOf i ↔ (e.code, e.sub) ∈ completionCodes i := .rfl

@[simp] theorem Body.codesOf_wait (i : Instr) : Body.wait.CodesOf i := trivial

@[simp] theorem Body.codesOf_noValue (i : Instr) (f : Fault) : (Body.noValue f).CodesOf i := trivial

/-- R280: every command can complete with OK. -/
theorem ok_mem_completionCodes (i : Instr) : (0, 0) ∈ completionCodes i := by
  cases i <;> exact List.mem_cons_self

/-- R230, R231: the checks of the code lookup raise the errors of ENC_SYM's row. -/
theorem withCode_codesOf {s : State} {i : Instr} {sym : Nat} {use : List Digit → Body}
    (hrow : completionCodes (.encSym sym) ⊆ completionCodes i) (huse : ∀ code, (use code).CodesOf i) :
    (withCode s sym use).CodesOf i := by
  obtain ⟨-, hb⟩ | ⟨-, -, hb⟩ | ⟨-, -, -, hb⟩ | ⟨code, -, -, -, hb⟩ := withCode_cases s sym use
  all_goals rw [hb]
  · exact hrow (by simp [completionCodes, CmdError.code, CmdError.sub])
  · exact hrow (by simp [completionCodes, CmdError.code, CmdError.sub])
  · exact hrow (by simp [completionCodes, CmdError.code, CmdError.sub])
  · exact huse code

/-- R200, R201: the checks of the node lookup raise the errors of Q_NODE's row. -/
theorem withNode_codesOf {s : State} {i : Instr} {node : Nat} {use : Node → Body}
    (hrow : completionCodes (.qNode node) ⊆ completionCodes i) (huse : ∀ e, (use e).CodesOf i) :
    (withNode s node use).CodesOf i := by
  obtain ⟨-, hb⟩ | ⟨-, -, hb⟩ | ⟨-, -, -, hb⟩ | ⟨e, -, -, -, hb⟩ := withNode_cases s node use
  all_goals rw [hb]
  · exact hrow (by simp [completionCodes, CmdError.code, CmdError.sub])
  · exact hrow (by simp [completionCodes, CmdError.code, CmdError.sub])
  · trivial
  · exact huse e

theorem bodyCount_codesOf (sym : Nat) (s : State) : (bodyCount sym s).CodesOf (.count sym) := by
  unfold bodyCount
  repeat' split
  all_goals simp [completionCodes, CmdError.code, CmdError.sub]

theorem bodyBuild_codesOf (s : State) : (bodyBuild s).CodesOf .build := by
  unfold bodyBuild
  repeat' split
  all_goals simp [completionCodes, CmdError.code, CmdError.sub]

theorem bodyDecStart_codesOf (s : State) : (bodyDecStart s).CodesOf .decStart := by
  unfold bodyDecStart
  split
  all_goals simp [completionCodes, CmdError.code, CmdError.sub]

/-- R251 at a leaf root: the error of a non-zero digit. -/
theorem digitAtLeaf_codesOf (s : State) (sym dig : Nat) : (digitAtLeaf s sym dig).CodesOf (.decDigit dig) := by
  unfold digitAtLeaf
  repeat' split
  all_goals simp [abortSession, completionCodes, CmdError.code, CmdError.sub]

/-- R251 below an internal node: the error of a dummy leaf. -/
theorem digitToChild_codesOf (s : State) (e : NodeIdx) (dig : Nat) : (digitToChild s e).CodesOf (.decDigit dig) := by
  unfold digitToChild emitSymbol
  repeat' split
  all_goals simp [abortSession, completionCodes, CmdError.code, CmdError.sub]

theorem bodyDecDigit_codesOf (dig : Nat) (s : State) : (bodyDecDigit dig s).CodesOf (.decDigit dig) := by
  unfold bodyDecDigit
  repeat' split
  all_goals simp [digitAtLeaf_codesOf, digitToChild_codesOf, abortSession, completionCodes, CmdError.code, CmdError.sub]

theorem bodyDecEnd_codesOf (s : State) : (bodyDecEnd s).CodesOf .decEnd := by
  unfold bodyDecEnd
  repeat' split
  all_goals simp [completionCodes, CmdError.code, CmdError.sub]

theorem bodyQFreq_codesOf (sym : Nat) (s : State) : (bodyQFreq sym s).CodesOf (.qFreq sym) := by
  unfold bodyQFreq
  split
  all_goals simp [completionCodes, CmdError.code, CmdError.sub]

theorem bodyQChild_codesOf (node ci : Nat) (s : State) : (bodyQChild node ci s).CodesOf (.qChild node ci) := by
  refine withNode_codesOf (List.subset_append_left _ [(0x16, 2), (0x16, 3)]) fun e => ?_
  cases e with
  | leaf sym f => simp [completionCodes, CmdError.code, CmdError.sub]
  | dummy => simp [completionCodes, CmdError.code, CmdError.sub]
  | internal f children =>
    dsimp only
    repeat' split
    all_goals simp [completionCodes, CmdError.code, CmdError.sub]

/-- R280: no pseudocode raises an error that its command's row does not list. -/
theorem commandBody_codesOf (i : Instr) (s : State) : (commandBody i s).CodesOf i := by
  cases i with
  | nop => trivial
  | clear => trivial
  | setArity n => trivial
  | count sym => exact bodyCount_codesOf sym s
  | build => exact bodyBuild_codesOf s
  | encSym sym =>
    refine withCode_codesOf (List.Subset.refl _) fun code => ?_
    split <;> trivial
  | decStart => exact bodyDecStart_codesOf s
  | decDigit dig => exact bodyDecDigit_codesOf dig s
  | decEnd => exact bodyDecEnd_codesOf s
  | errAck => trivial
  | qFreq sym => exact bodyQFreq_codesOf sym s
  | qCode sym => exact withCode_codesOf (List.Subset.refl _) fun _ => trivial
  | qNode node => exact withNode_codesOf (List.Subset.refl _) fun _ => trivial
  | qChild node ci => exact bodyQChild_codesOf node ci s

/-- R115: an illegal word raises its error. -/
theorem runWord_illegal {s : State} {w : Word} {why : Illegal} (hdecode : decode w = .illegal why) :
    runWord w s = .next (s.raise (illegalError why)) := by
  rw [runWord, hdecode]

/-- R280: the code and sub-code of an illegal word's error. -/
theorem illegalError_pair (why : Illegal) :
    ((illegalError why).code, (illegalError why).sub) = (0x10, 1) ∨
      ((illegalError why).code, (illegalError why).sub) = (0x10, 2) := by
  cases why with
  | unassignedOpcode => exact .inl rfl
  | reservedBit => exact .inr rfl

/-- Settles O10: a success carries OK, and a failure an error that the command's pseudocode raises. -/
theorem completionCodesAreThoseOfTheTable : Obligations.CompletionCodesAreThoseOfTheTable := by
  unfold Obligations.CompletionCodesAreThoseOfTheTable
  refine ⟨fun i s t h hwait => ?_, fun w why s t hdecode h => ?_⟩
  · have hcodes := commandBody_codesOf i s
    obtain ⟨u, -, rfl⟩ | ⟨u, e, hb, rfl⟩ | ⟨hb, -⟩ := exec_next h
    · exact ok_mem_completionCodes i
    · rwa [hb] at hcodes
    · exact absurd (congrArg Body.isWait hb) hwait
  · cases h.symm.trans (runWord_illegal hdecode)
    exact illegalError_pair why

end Sys2Proof.Machine
end

section
/-! PROOFS of the family 70_reset_and_hazards.md: the reset input (R310), and an overrun while ERR_ACK executes (R321). -/

namespace Sys2Proof.Machine

/-- R310: the reset input's turn is used up before the reset is asserted. -/
theorem step_reset {s : State} (hturn : s.nextTurn = .reset) : step s = .next s.dropTurn.assertReset := by
  rw [step, hturn, takeTurn]

/-- Settles O19: the parameters, the answers and the draws are those of the state whose turn was used up. -/
theorem resetReplacesTheWholeState : Obligations.ResetReplacesTheWholeState := by
  unfold Obligations.ResetReplacesTheWholeState
  intro s rest hturns
  have hturn : s.nextTurn = .reset := by rw [State.nextTurn, hturns]
  rw [step_reset hturn, State.assertReset, State.dropTurn_turns, hturns]
  rfl

/-- Settles O42: the write sets OVR and leaves the latch (O11), so the engine runs ERR_ACK, which clears OVR (O5, O20). -/
theorem overrunDuringErrAckIsCleared : Obligations.OverrunDuringErrAckIsCleared := by
  unfold Obligations.OverrunDuringErrAckIsCleared
  intro s v rest hbusy hcmdl hturns
  obtain ⟨-, hoverrun⟩ := cmdWriteIsAcceptedOnlyWhenIdle s v (.engine :: rest) hturns
  have hdecode : decode (encode .errAck) = .command .errAck := decodeOfEncodeIsTheCommand .errAck rfl
  obtain ⟨-, -, -, -, hrun⟩ := engineStepRunsTheLatchedCommand { s with turns := .engine :: rest, ovr := true } rfl
  obtain ⟨-, hack⟩ := nopAndErrAckFollowTheirRules { s with turns := rest, ovr := true }
  exact ⟨_, _, hoverrun hbusy, rfl, (hrun _ _ hbusy hcmdl hdecode).trans hack, rfl, rfl, rfl⟩

end Sys2Proof.Machine
end
